-- ==== Sys2Proof/Word.lean ====
section
/-! DEFINITION. The value types of the engine, one per width (rules R5, R11). Every value is an unsigned bit
pattern (R9); slice index 0 is the least significant bit (R8). -/

namespace Sys2Proof

/-- A 64-bit block, register or command word (R5, R11). -/
abbrev Block64 := BitVec 64

/-- A 64-bit key, parity bits included (R5). -/
abbrev MasterKey64 := BitVec 64

/-- Half a block (R5, R11: L, R, the F output, the S-layer output). -/
abbrev HalfBlock32 := BitVec 32

/-- A round key, an expansion output or a key-mixed value (R5, R11). -/
abbrev RoundKey48 := BitVec 48

/-- The PC-1 output (R5). -/
abbrev Key56 := BitVec 56

/-- Half of the PC-1 output: C or D (R5, R11). -/
abbrev Half28 := BitVec 28

/-- An S-box input group (R11). -/
abbrev Group6 := BitVec 6

/-- An S-box output, and STATUS.ECODE (R11, R40). -/
abbrev Nibble := BitVec 4

/-- A host transaction (R100). -/
abbrev Txn68 := BitVec 68

/-- A micro-operation select word (R105). -/
abbrev Select8 := BitVec 8

/-- The sixteen round keys in forward order; entry `r - 1` is `RK[r]` (R43). -/
abbrev Schedule := Vector RoundKey48 16

/-- The direction of a block operation (R44). -/
inductive Dir where
  | enc
  | dec
  deriving DecidableEq, Repr

end Sys2Proof
end

