-- ==== Sys2Proof/Syntax.lean ====
section
/-! DEFINITION. The instructions: one constructor per row of spec/opcode_table.json (rules R100, R102, R105). -/

namespace Sys2Proof

/-- An instruction of the engine. A host transaction carries the 64-bit DATA field of its record (R100): a read's
DATA is ignored on issue, but it is part of the record, so it is kept and no bit of the encoding is lost. KEYSCHED,
ENCRYPT and DECRYPT are the writes of CMD whose word is a legal command (R102). A micro-operation has no operand
field (R105): its operands are the datapath's inputs in State. -/
inductive Instr where
  /-- `RD CMD` (R260). -/
  | rdCmd (data : Block64)
  /-- `RD STATUS` (R260, R262). -/
  | rdStatus (data : Block64)
  /-- `RD KEY` (R260). -/
  | rdKey (data : Block64)
  /-- `RD DIN` (R260). -/
  | rdDin (data : Block64)
  /-- `RD DOUT` (R260). -/
  | rdDout (data : Block64)
  /-- `RD R5` (R265). -/
  | rdR5 (data : Block64)
  /-- `RD R6` (R265). -/
  | rdR6 (data : Block64)
  /-- `RD R7` (R265). -/
  | rdR7 (data : Block64)
  /-- `WR CMD, v` (R263). -/
  | wrCmd (v : Block64)
  /-- `WR STATUS, v` (R266). -/
  | wrStatus (v : Block64)
  /-- `WR KEY, v` (R267). -/
  | wrKey (v : Block64)
  /-- `WR DIN, v` (R267). -/
  | wrDin (v : Block64)
  /-- `WR DOUT, v` (R266). -/
  | wrDout (v : Block64)
  /-- `WR R5, v` (R265). -/
  | wrR5 (v : Block64)
  /-- `WR R6, v` (R265). -/
  | wrR6 (v : Block64)
  /-- `WR R7, v` (R265). -/
  | wrR7 (v : Block64)
  /-- `WR CMD, 0x1` (R102, R169). -/
  | keysched
  /-- `WR CMD, 0x2` (R102, R239). -/
  | encrypt
  /-- `WR CMD, 0x3` (R102, R240). -/
  | decrypt
  /-- Initial permutation (R134). -/
  | permIp
  /-- Inverse initial permutation (R135). -/
  | permFp
  /-- Expansion (R137). -/
  | permE
  /-- Round permutation (R138). -/
  | permP
  /-- Permuted choice 1 (R139). -/
  | permPc1
  /-- Permuted choice 2 (R140). -/
  | permPc2
  /-- Rotation of a 28-bit half by 1 (R162). -/
  | rotl28By1
  /-- Rotation of a 28-bit half by 2 (R162). -/
  | rotl28By2
  /-- S-box 1 (R194, R195). -/
  | sbox1
  /-- S-box 2 (R194, R196). -/
  | sbox2
  /-- S-box 3 (R194, R197). -/
  | sbox3
  /-- S-box 4 (R194, R198). -/
  | sbox4
  /-- S-box 5 (R194, R199). -/
  | sbox5
  /-- S-box 6 (R194, R200). -/
  | sbox6
  /-- S-box 7 (R194, R201). -/
  | sbox7
  /-- S-box 8 (R194, R202). -/
  | sbox8
  /-- Key mixing (R191). -/
  | xor48
  /-- Half-block mixing (R207). -/
  | xor32
  /-- The F-function (R206). -/
  | ffunc
  /-- A full Feistel round (R208). -/
  | round
  deriving DecidableEq, Repr

/-- The two encoded forms an instruction has (R110): a 68-bit host transaction (R100) or an 8-bit micro-operation
select word (R105). -/
inductive Encoded where
  | host68 (w : Txn68)
  | uop8 (u : Select8)
  deriving DecidableEq, Repr

/-- The eight slots of the register index space (R70, R101). -/
inductive RegIdx where
  | cmd
  | status
  | key
  | din
  | dout
  | r5
  | r6
  | r7
  deriving DecidableEq, Repr

/-- What a command word decodes to (R111). -/
inductive Cmd where
  | keysched
  | encrypt
  | decrypt
  | illegal
  deriving DecidableEq, Repr

/-- The six permutation tables, as the multiplexer selects them (R133). -/
inductive PermSel where
  | ip
  | fp
  | e
  | p
  | pc1
  | pc2
  deriving DecidableEq, Repr

/-- One item of a host program (R108, R109): a transaction, or the loop POLL. -/
inductive HostItem where
  /-- One host transaction, as its 68-bit record (R100). -/
  | txn (w : Txn68)
  /-- `POLL -> s`: read STATUS until its bit 0 reads 0 (R109). -/
  | poll
  deriving DecidableEq, Repr

/-- Which event comes next in the total order (R78, R268). -/
inductive Turn where
  /-- The Host issues its next transaction. -/
  | host
  /-- The Engine takes its Complete step, if enabled (R269, R270). -/
  | engine
  /-- The reference sequencer advances one cycle (R238). No architectural event unless the cycle completes. -/
  | cycle
  /-- The environment applies Reset (R330). -/
  | reset
  /-- The datapath is driven with a micro-operation select word (R105). Not a host event. -/
  | uop (u : Select8)
  deriving DecidableEq, Repr

end Sys2Proof
end

