-- ==== Sys2Proof/WellFormed.lean ====
section
/-! DEFINITION. The static checks: of an instruction, and of a set of permutation tables (rules R102, R131). -/

namespace Sys2Proof

/-- An instruction is well formed when it is the one spelling of its encoding. The only encodings with two spellings
are the three legal command words, which KEYSCHED, ENCRYPT and DECRYPT spell (R102, R108): WR_CMD carries another word. -/
def Instr.wf : Instr → Bool
  | .wrCmd v => v != 1 && v != 2 && v != 3
  | _ => true

/-- R131: every entry of a table lies in 1..Win. -/
def tableWf (win : Nat) {wout : Nat} (t : Vector Nat wout) : Bool :=
  t.toList.all fun p => decide (1 ≤ p ∧ p ≤ win)

/-- The six permutation tables of an instance (R47, R133). The lengths are the output widths. -/
structure TableSet where
  ip : Vector Nat 64
  fp : Vector Nat 64
  e : Vector Nat 48
  p : Vector Nat 32
  pc1 : Vector Nat 56
  pc2 : Vector Nat 48
  deriving DecidableEq, Repr

/-- R131 for the whole set. -/
def TableSet.wf (t : TableSet) : Bool :=
  tableWf 64 t.ip && tableWf 64 t.fp && tableWf 32 t.e && tableWf 32 t.p && tableWf 64 t.pc1 && tableWf 56 t.pc2

end Sys2Proof
end

