-- ==== Sys2Proof/Decode.lean ====
section
/-! DEFINITION. The decoder, total on every word, and after it the encoder (rules R100 to R105, R111). -/

namespace Sys2Proof

/-- Why a word is no instruction (R105: the reserved select words). No host transaction is refused (R100). -/
inductive DecodeError where
  /-- The select word is not in the table of R105. -/
  | reservedSelect (u : Select8)
  deriving DecidableEq, Repr

/-- The register a 3-bit index names (R101). -/
def RegIdx.ofIndex (idx : BitVec 3) : RegIdx :=
  match idx.toNat with
  | 0 => .cmd
  | 1 => .status
  | 2 => .key
  | 3 => .din
  | 4 => .dout
  | 5 => .r5
  | 6 => .r6
  | _ => .r7

/-- The index of a register (R101). -/
def RegIdx.index : RegIdx → BitVec 3
  | .cmd => 0
  | .status => 1
  | .key => 2
  | .din => 3
  | .dout => 4
  | .r5 => 5
  | .r6 => 6
  | .r7 => 7

/-- DecodeCmd (R111): total over all 2^64 words. -/
def decodeCmd (v : Block64) : Cmd :=
  if v = 0x0000000000000001 then .keysched
  else if v = 0x0000000000000002 then .encrypt
  else if v = 0x0000000000000003 then .decrypt
  else .illegal

/-- The read transaction of a register (R100 with W = 0). -/
def readInstr (idx : RegIdx) (data : Block64) : Instr :=
  match idx with
  | .cmd => .rdCmd data
  | .status => .rdStatus data
  | .key => .rdKey data
  | .din => .rdDin data
  | .dout => .rdDout data
  | .r5 => .rdR5 data
  | .r6 => .rdR6 data
  | .r7 => .rdR7 data

/-- A write of CMD: the rows of the three legal command words first, then WR_CMD (R102, R111; log entry 12). -/
def cmdInstr (v : Block64) : Instr :=
  match decodeCmd v with
  | .keysched => .keysched
  | .encrypt => .encrypt
  | .decrypt => .decrypt
  | .illegal => .wrCmd v

/-- The write transaction of a register (R100 with W = 1). -/
def writeInstr (idx : RegIdx) (v : Block64) : Instr :=
  match idx with
  | .cmd => cmdInstr v
  | .status => .wrStatus v
  | .key => .wrKey v
  | .din => .wrDin v
  | .dout => .wrDout v
  | .r5 => .wrR5 v
  | .r6 => .wrR6 v
  | .r7 => .wrR7 v

/-- Field W of a transaction: bit 67 (R100). -/
def txnIsWrite (w : Txn68) : Bool := w.getLsbD 67

/-- Field IDX of a transaction: bits 66:64 (R100). -/
def txnIndex (w : Txn68) : BitVec 3 := w.extractLsb' 64 3

/-- Field DATA of a transaction: bits 63:0 (R100). -/
def txnData (w : Txn68) : Block64 := w.extractLsb' 0 64

/-- Every one of the 2^68 records is a transaction (R100). -/
def decodeHost (w : Txn68) : Instr :=
  if txnIsWrite w then writeInstr (RegIdx.ofIndex (txnIndex w)) (txnData w)
  else readInstr (RegIdx.ofIndex (txnIndex w)) (txnData w)

/-- Field UNIT of a select word: bits 7:4 (R105). -/
def uopUnit (u : Select8) : BitVec 4 := u.extractLsb' 4 4

/-- Field SEL of a select word: bits 3:0 (R105). -/
def uopSel (u : Select8) : BitVec 4 := u.extractLsb' 0 4

/-- The table of R105; every other select word is reserved. -/
def decodeUop (u : Select8) : Except DecodeError Instr :=
  match (uopUnit u).toNat, (uopSel u).toNat with
  | 0x0, 0x0 => .ok .permIp
  | 0x0, 0x1 => .ok .permFp
  | 0x0, 0x2 => .ok .permE
  | 0x0, 0x3 => .ok .permP
  | 0x0, 0x4 => .ok .permPc1
  | 0x0, 0x5 => .ok .permPc2
  | 0x1, 0x1 => .ok .rotl28By1
  | 0x1, 0x2 => .ok .rotl28By2
  | 0x2, 0x1 => .ok .sbox1
  | 0x2, 0x2 => .ok .sbox2
  | 0x2, 0x3 => .ok .sbox3
  | 0x2, 0x4 => .ok .sbox4
  | 0x2, 0x5 => .ok .sbox5
  | 0x2, 0x6 => .ok .sbox6
  | 0x2, 0x7 => .ok .sbox7
  | 0x2, 0x8 => .ok .sbox8
  | 0x3, 0x0 => .ok .xor48
  | 0x4, 0x0 => .ok .xor32
  | 0x5, 0x0 => .ok .ffunc
  | 0x6, 0x0 => .ok .round
  | _, _ => .error (.reservedSelect u)

/-- The table a 3-bit TSEL selects; 6 and 7 are reserved (R133). -/
def permSelOfTsel (tsel : BitVec 3) : Except DecodeError PermSel :=
  match tsel.toNat with
  | 0 => .ok .ip
  | 1 => .ok .fp
  | 2 => .ok .e
  | 3 => .ok .p
  | 4 => .ok .pc1
  | 5 => .ok .pc2
  | _ => .error (.reservedSelect (tsel.setWidth 8))

/-- The decoder over both encoded forms (R110). -/
def decode : Encoded → Except DecodeError Instr
  | .host68 w => .ok (decodeHost w)
  | .uop8 u => decodeUop u

/-- The record W, IDX, DATA (R100). -/
def encodeTxn (isWrite : Bool) (idx : RegIdx) (data : Block64) : Encoded :=
  .host68 (BitVec.ofBool isWrite ++ idx.index ++ data)

/-- The select word UNIT, SEL (R105). -/
def encodeUop (unit sel : BitVec 4) : Encoded := .uop8 (unit ++ sel)

/-- The encoder, from the tables of R100, R102, R105 and R108. -/
def encode : Instr → Encoded
  | .rdCmd d => encodeTxn false .cmd d
  | .rdStatus d => encodeTxn false .status d
  | .rdKey d => encodeTxn false .key d
  | .rdDin d => encodeTxn false .din d
  | .rdDout d => encodeTxn false .dout d
  | .rdR5 d => encodeTxn false .r5 d
  | .rdR6 d => encodeTxn false .r6 d
  | .rdR7 d => encodeTxn false .r7 d
  | .wrCmd v => encodeTxn true .cmd v
  | .wrStatus v => encodeTxn true .status v
  | .wrKey v => encodeTxn true .key v
  | .wrDin v => encodeTxn true .din v
  | .wrDout v => encodeTxn true .dout v
  | .wrR5 v => encodeTxn true .r5 v
  | .wrR6 v => encodeTxn true .r6 v
  | .wrR7 v => encodeTxn true .r7 v
  | .keysched => encodeTxn true .cmd 0x0000000000000001
  | .encrypt => encodeTxn true .cmd 0x0000000000000002
  | .decrypt => encodeTxn true .cmd 0x0000000000000003
  | .permIp => encodeUop 0x0 0x0
  | .permFp => encodeUop 0x0 0x1
  | .permE => encodeUop 0x0 0x2
  | .permP => encodeUop 0x0 0x3
  | .permPc1 => encodeUop 0x0 0x4
  | .permPc2 => encodeUop 0x0 0x5
  | .rotl28By1 => encodeUop 0x1 0x1
  | .rotl28By2 => encodeUop 0x1 0x2
  | .sbox1 => encodeUop 0x2 0x1
  | .sbox2 => encodeUop 0x2 0x2
  | .sbox3 => encodeUop 0x2 0x3
  | .sbox4 => encodeUop 0x2 0x4
  | .sbox5 => encodeUop 0x2 0x5
  | .sbox6 => encodeUop 0x2 0x6
  | .sbox7 => encodeUop 0x2 0x7
  | .sbox8 => encodeUop 0x2 0x8
  | .xor48 => encodeUop 0x3 0x0
  | .xor32 => encodeUop 0x4 0x0
  | .ffunc => encodeUop 0x5 0x0
  | .round => encodeUop 0x6 0x0

/-- The word an opcode-table row's bits make: a row of at most 8 bits is a select word, a longer one a host
transaction in a container of whole bytes, whose bits above 67 are 0 (log entry 13). -/
def encodedOfTable (nbits w : Nat) : Option Encoded :=
  if nbits ≤ 8 then
    if w < 2 ^ 8 then some (.uop8 (BitVec.ofNat 8 w)) else none
  else if w < 2 ^ 68 then some (.host68 (BitVec.ofNat 68 w)) else none

/-- What the decoder reads from an opcode-table word. -/
def decodeTableWord (nbits w : Nat) : Option Instr :=
  match encodedOfTable nbits w with
  | some c => (decode c).toOption
  | none => none

end Sys2Proof
end

