-- ==== Sys2Proof/Machine/Operands.lean ====
section
/-! DEFINITION. Operand forms: FIPS bit positions, the permutation mechanism, field extraction, rotation, S-box
groups and lanes, round-key and shift selection, and the two maps at the host's boundary (rules R8, R9, R70, R73,
R75, R106, R130, R160 to R162, R192, R203, R230, R231). -/

namespace Sys2Proof.Machine

/-- FIPS position `i` (1-indexed from the most significant end) of a value (R8, R72). -/
def fbit {w : Nat} (v : BitVec w) (i : Nat) : Bool := v.getLsbD (w - i)

/-- Permute (R130): output position `p` copies input position `T[p]`, positions counted from the most significant
end. Repeated entries expand and omitted ones contract (R132). -/
def permute {win wout : Nat} (t : Vector Nat wout) (x : BitVec win) : BitVec wout :=
  (BitVec.ofBoolListBE (t.toList.map (fbit x))).cast (by simp)

/-- Slice 63:32 of a block: FIPS positions 1..32 (R230). -/
def hi32 (x : Block64) : HalfBlock32 := x.extractLsb' 32 32

/-- Slice 31:0 of a block: FIPS positions 33..64 (R230). -/
def lo32 (x : Block64) : HalfBlock32 := x.extractLsb' 0 32

/-- Slice 55:28 of the PC-1 output: C (R161). -/
def hi28 (x : Key56) : Half28 := x.extractLsb' 28 28

/-- Slice 27:0 of the PC-1 output: D (R161). -/
def lo28 (x : Key56) : Half28 := x.extractLsb' 0 28

/-- Left rotation of a 28-bit value (R9, R162). -/
def rotl28 (h : Half28) (n : Nat) : Half28 := (h <<< n) ||| (h >>> (28 - n))

/-- Group `g_i` of a 48-bit value, `i = lane + 1`: slice `53-6i : 48-6i` (R192). -/
def group6 (lane : Fin 8) (x : RoundKey48) : Group6 := x.extractLsb' (42 - 6 * lane.val) 6

/-- Row number of a group: `b1 b6` with `b1` the high bit (R193). -/
def groupRow (g : Group6) : Fin 4 := (BitVec.ofBool (g.getLsbD 5) ++ BitVec.ofBool (g.getLsbD 0)).toFin

/-- Column number of a group: `b2 b3 b4 b5`, `b2` the high bit (R193). -/
def groupCol (g : Group6) : Fin 16 := (g.extractLsb' 1 4).toFin

/-- The least significant bit of output lane `i = lane + 1`: the lane is slice `31-4(i-1) : 28-4(i-1)` (R106). -/
def laneLsb (lane : Fin 8) : Nat := 28 - 4 * lane.val

/-- Writes one 4-bit lane of the S-layer's output and no other bit (R106, R203). -/
def setLane (lane : Fin 8) (v : Nibble) (s : HalfBlock32) : HalfBlock32 :=
  (s &&& ~~~((0xF#32) <<< laneLsb lane)) ||| ((v.setWidth 32) <<< laneLsb lane)

/-- Entry `RK[r]` of a store, `r` in 1..16 (R43). DESIGN CHOICE: outside that range, which nothing reaches, round 0 reads
`RK[1]` (`r - 1` is truncated) and a round above 16 reads 0 (log entry 17). -/
def rkAt (rk : Schedule) (r : Nat) : RoundKey48 := rk[r - 1]?.getD 0

/-- KeyFor (R231): round `r` in 1..16 uses `RK[r]` to encrypt and `RK[17 - r]` to decrypt. Log entry 17 says what it gives
for another `r`. -/
def keyFor (dir : Dir) (rk : Schedule) (r : Nat) : RoundKey48 :=
  match dir with
  | .enc => rkAt rk r
  | .dec => rkAt rk (17 - r)

/-- `SHIFTS[r]`, `r` in 1..16 (R160). DESIGN CHOICE: outside that range, which nothing reaches, round 0 reads `SHIFTS[1]`
(`r - 1` is truncated) and a round above 16 reads 0 (log entry 17). -/
def shiftOf (r : Nat) : Nat := tableShifts[r - 1]?.getD 0

/-- The register value of a byte stream: byte 0 holds FIPS positions 1..8 (R73, big-endian). -/
def blockOfBytes (b : Vector (BitVec 8) 8) : Block64 :=
  b[0] ++ b[1] ++ b[2] ++ b[3] ++ b[4] ++ b[5] ++ b[6] ++ b[7]

/-- The byte stream of a register value: byte `j` is slice `63-8j : 56-8j` (R73). -/
def bytesOfBlock (v : Block64) : Vector (BitVec 8) 8 :=
  Vector.ofFn fun j => v.extractLsb' (56 - 8 * j.val) 8

/-- The register index a byte-addressed host bus reaches at a byte offset: `8 * idx`. An adapter issues nothing for an
offset that is not a multiple of 8 (R70, R75; B12), and the 8 slots end at offset 63. -/
def indexOfByteOffset (offset : Nat) : Option (BitVec 3) :=
  if offset % 8 = 0 ∧ offset < 64 then some (BitVec.ofNat 3 (offset / 8)) else none

end Sys2Proof.Machine
end

