-- ==== Sys2Proof/Machine/Cipher.lean ====
section
/-! DEFINITION. The pure functions of the four components: permutations (R133 to R140), S-boxes and F-function (R190 to
R208), key schedule (R160 to R165), block transformation (R230 to R236). They read no state (R141, R242). -/

namespace Sys2Proof.Machine

/-- IPerm (R134). -/
def iperm (x : Block64) : Block64 := permute tableIP x

/-- FPerm (R135). -/
def fperm (x : Block64) : Block64 := permute tableFP x

/-- Expand (R137). -/
def expand (r : HalfBlock32) : RoundKey48 := permute tableE r

/-- PPerm (R138). -/
def pperm (s : HalfBlock32) : HalfBlock32 := permute tableP s

/-- PC1Perm (R139). -/
def pc1perm (k : MasterKey64) : Key56 := permute tablePC1 k

/-- PC2Perm (R140). -/
def pc2perm (cd : Key56) : RoundKey48 := permute tablePC2 cd

/-- PERMUX (R133): reads the low Win bits of X and zero-extends the result to 64 bits. -/
def permux (sel : PermSel) (x : Block64) : Block64 :=
  match sel with
  | .ip => iperm x
  | .fp => fperm x
  | .e => (expand (x.setWidth 32)).setWidth 64
  | .p => (pperm (x.setWidth 32)).setWidth 64
  | .pc1 => (pc1perm x).setWidth 64
  | .pc2 => (pc2perm (x.setWidth 56)).setWidth 64

/-- Mix (R191). -/
def mixKey (e k : RoundKey48) : RoundKey48 := e ^^^ k

/-- Sbox (R194) of S-box `i = lane + 1`. -/
def sbox (lane : Fin 8) (g : Group6) : Nibble := sboxTables[lane][groupRow g][groupCol g]

/-- The output of lane `lane` for a mixed value: S-box `i` of group `g_i` (R192, R203). -/
def sboxLane (lane : Fin 8) (x : RoundKey48) : Nibble := sbox lane (group6 lane x)

/-- SLayer (R203): S1's output is the most significant nibble. -/
def slayer (x : RoundKey48) : HalfBlock32 :=
  sboxLane 0 x ++ sboxLane 1 x ++ sboxLane 2 x ++ sboxLane 3 x ++ sboxLane 4 x ++ sboxLane 5 x ++ sboxLane 6 x ++
    sboxLane 7 x

/-- The F-function (R190, R205, R206). -/
def ffun (r : HalfBlock32) (k : RoundKey48) : HalfBlock32 := pperm (slayer (mixKey (expand r) k))

/-- XOR32 (R207). -/
def mixHalf (l f : HalfBlock32) : HalfBlock32 := l ^^^ f

/-- Round (R208): `(R, L XOR F(R, K))`, both from the old values. -/
def roundPair (l r : HalfBlock32) (k : RoundKey48) : HalfBlock32 × HalfBlock32 := (r, mixHalf l (ffun r k))

/-- The halves C and D after round `n` of the key schedule; `n = 0` is KS.SPLIT (R161, R163). -/
def halvesAfter (k : MasterKey64) : Nat → Half28 × Half28
  | 0 => (hi28 (pc1perm k), lo28 (pc1perm k))
  | n + 1 => (rotl28 (halvesAfter k n).1 (shiftOf (n + 1)), rotl28 (halvesAfter k n).2 (shiftOf (n + 1)))

/-- KS.ROUNDKEY (R164): PC-2 of C then D. -/
def roundKeyOf (cd : Half28 × Half28) : RoundKey48 := pc2perm (cd.1 ++ cd.2)

/-- DeriveRoundKeys (R165). -/
def deriveRoundKeys (k : MasterKey64) : Schedule := Vector.ofFn fun i => roundKeyOf (halvesAfter k (i.val + 1))

/-- The halves of a block after the initial permutation (R230). -/
def splitBlock (b : Block64) : HalfBlock32 × HalfBlock32 := (hi32 (iperm b), lo32 (iperm b))

/-- The pair `(L_n, R_n)` after round `n` (R231, R232). -/
def roundsAfter (dir : Dir) (rk : Schedule) (b : Block64) : Nat → HalfBlock32 × HalfBlock32
  | 0 => splitBlock b
  | n + 1 =>
    roundPair (roundsAfter dir rk b n).1 (roundsAfter dir rk b n).2 (keyFor dir rk (n + 1))

/-- The pre-output block joins right-then-left, and FP gives the output (R233, R234). -/
def joinBlock (lr : HalfBlock32 × HalfBlock32) : Block64 := fperm (lr.2 ++ lr.1)

/-- The block transformation in either direction (R230 to R236). -/
def cipherBlock (dir : Dir) (rk : Schedule) (b : Block64) : Block64 := joinBlock (roundsAfter dir rk b 16)

/-- EncryptBlock (R235). -/
def encryptBlock (b : Block64) (rk : Schedule) : Block64 := cipherBlock .enc rk b

/-- DecryptBlock (R236). -/
def decryptBlock (b : Block64) (rk : Schedule) : Block64 := cipherBlock .dec rk b

end Sys2Proof.Machine
end

