-- ==== Sys2Proof/Config.lean ====
section
/-! DEFINITION. What is fixed for this hardware by name, and the free values: what the spec leaves unspecified.
A free value has no body, so nothing can be proved of it and a claim holds whatever it is. -/

namespace Sys2Proof.Config

/-- The identity string this spec gives the block (R1). -/
def identity : String := "DES-FIPS46-3-CORE/DESChatClient-v7"

/-- The number of rounds, and of round keys (R5, R232). -/
def numRounds : Nat := 16

/-- ECODE of no error (R40). -/
def ecodeNone : Nibble := 0

/-- ECODE of ILLEGAL_CMD (R40, R304). -/
def ecodeIllegalCmd : Nibble := 1

/-- ECODE of NO_KEY (R40, R305). -/
def ecodeNoKey : Nibble := 2

/-- What RK holds after the `n`-th Reset event of a run, which may depend on what it held before: unspecified
(R43, R330; B1). Free value, log entry 3. -/
opaque rkAfterReset : Nat → Schedule → Schedule

/-- RND after the `n`-th Reset event: unspecified (R45, R330; B2). Free value, log entry 3. -/
opaque rndAfterReset : Nat → BitVec 5

/-- WL after the `n`-th Reset event: unspecified (R45, R330; B2). Free value, log entry 3. -/
opaque wlAfterReset : Nat → HalfBlock32

/-- WR after the `n`-th Reset event: unspecified (R45, R330; B2). Free value, log entry 3. -/
opaque wrAfterReset : Nat → HalfBlock32

/-- WC after the `n`-th Reset event: unspecified (R45, R330; B2). Free value, log entry 3. -/
opaque wcAfterReset : Nat → Half28

/-- WD after the `n`-th Reset event: unspecified (R45, R330; B2). Free value, log entry 3. -/
opaque wdAfterReset : Nat → Half28

/-- RKS after the `n`-th Reset event: unspecified (R45, R330; B2). Free value, log entry 3. -/
opaque rksAfterReset : Nat → Schedule → Schedule

end Sys2Proof.Config
end

