-- ==== Sys2Proof/Machine/State.lean ====
section
/-! DEFINITION. The state of the engine and of the world around it, and the state after reset (rules R30 to R45,
R330, R331). Plain data only. -/

namespace Sys2Proof.Machine

/-- STATUS, field by field (R35 to R41). Bits 63:9 are no field: they read as 0 and are never written (R42). -/
structure Status where
  /-- Bit 0: an accepted operation has not completed (R36). -/
  busy : Bool
  /-- Bit 1: RK holds a complete schedule (R37). -/
  kv : Bool
  /-- Bit 2: the last accepted operation completed (R38). -/
  done : Bool
  /-- Bit 3: the last accepted CMD write was rejected (R39). -/
  err : Bool
  /-- Bits 7:4: the code of that rejection (R40). -/
  ecode : Nibble
  /-- Bit 8: a CMD write arrived while BUSY = 1 (R41). -/
  ovr : Bool
  deriving DecidableEq, Repr

/-- The operation in flight, with its operand snapshot (R44). -/
inductive Pend where
  | none
  | ks (k : MasterKey64)
  | blk (dir : Dir) (b : Block64)
  deriving DecidableEq, Repr

/-- The architectural state, exactly R30. CMD holds no state (R34). -/
structure Arch where
  /-- KEY (R31). -/
  key : MasterKey64
  /-- DIN (R32). -/
  din : Block64
  /-- DOUT (R33). -/
  dout : Block64
  /-- STATUS (R35). -/
  status : Status
  /-- The round-key store RK[1..16] (R43). -/
  rk : Schedule
  /-- PEND (R44). -/
  pend : Pend
  deriving DecidableEq, Repr

/-- The working registers of the reference sequencer (R45, R238): not architectural. -/
structure Work where
  /-- RND: phase and round counter. -/
  rnd : BitVec 5
  /-- WL: left half. -/
  wl : HalfBlock32
  /-- WR: right half. -/
  wr : HalfBlock32
  /-- WC: key half C. -/
  wc : Half28
  /-- WD: key half D. -/
  wd : Half28
  /-- RKS[1..16]: the shadow schedule. -/
  rks : Schedule
  deriving DecidableEq, Repr

/-- The datapath's operand inputs and result outputs (R133, R162, R191, R194, R203, R206 to R208). Not
architectural; that they are latched is the model's own (log entry 7). -/
structure Datapath where
  /-- Multiplexer input X (R133). -/
  x : Block64
  /-- Multiplexer output Y (R133). -/
  y : Block64
  /-- ROTL28 operand (R162). -/
  h : Half28
  /-- ROTL28 result (R162). -/
  hRot : Half28
  /-- XOR48 operand: the expansion (R190, R191). DESIGN CHOICE: no event writes it (log entry 19). -/
  e : RoundKey48
  /-- Round key: operand of XOR48, FFUNC and ROUND (R191, R206, R208). -/
  k : RoundKey48
  /-- XOR48 result, the S-layer's operand (R191, R192). -/
  mix : RoundKey48
  /-- The S-layer's eight 4-bit output lanes (R106, R203). -/
  sOut : HalfBlock32
  /-- Operand L (R207, R208). -/
  l : HalfBlock32
  /-- Operand R (R206, R208). -/
  r : HalfBlock32
  /-- FFUNC result, XOR32's second operand (R206, R207). -/
  f : HalfBlock32
  /-- XOR32 result (R207). -/
  lf : HalfBlock32
  /-- ROUND result L' (R208). -/
  lNext : HalfBlock32
  /-- ROUND result R' (R208). -/
  rNext : HalfBlock32
  deriving DecidableEq, Repr

/-- The whole state: the engine (architectural, working registers, datapath) and its inputs and outputs as data. -/
structure State where
  /-- The architectural state (R30). -/
  arch : Arch
  /-- The reference sequencer's working registers (R45). -/
  work : Work
  /-- The datapath's inputs and outputs (log entry 7). -/
  dp : Datapath
  /-- What the Host has still to do, in its program order (R268; log entry 4). -/
  host : List HostItem
  /-- Which events come next in the total order (R78; log entry 5). -/
  sched : List Turn
  /-- The values host reads returned, newest first (R100, R108; log entry 10). -/
  returned : List Block64
  /-- How many Reset events the run has had: indexes the free values of log entry 3. -/
  resets : Nat
  deriving DecidableEq, Repr

/-- Why the machine stops with a fault. -/
inductive Fault where
  /-- The instance was built from a permutation table with an entry outside 1..Win (R131, R302, R272). Raised by the
  admission check `powerOn`, before anything runs; `step` never raises it: the hardware has no run-time check for it.
  Safe: such an instance is no instance of the spec. -/
  | malformedTable
  deriving DecidableEq, Repr

/-- Why a word has no meaning. -/
inductive Refusal where
  /-- An instruction of the opcode table that has no meaning in this model yet. Raised by `exec` only. Safe. -/
  | notModelled (mnemonic : String)
  /-- The datapath was driven with a reserved micro-operation select word (R105, B5: refuse). Raised by `step` on a
  micro-operation turn. No host transaction and no cycle of the sequencer can raise it (R272). Safe. -/
  | reservedSelect (u : Select8)
  deriving DecidableEq, Repr

/-- The outcome of a step or of a meaning. -/
abbrev Result := Host.Outcome State Fault Refusal

/-- Every STATUS field after reset (R35 to R41, R330). -/
def Status.reset : Status :=
  { busy := false, kv := false, done := false, err := false, ecode := Config.ecodeNone, ovr := false }

/-- A store of sixteen zero entries: the value the model names for RK and RKS at reset, where the spec gives none
(log entries 1 and 2). -/
def zeroSchedule : Schedule := Vector.replicate 16 0

/-- The architectural state after reset (R330, R331), for given contents of RK, which reset leaves unspecified. -/
def Arch.reset (rk : Schedule) : Arch :=
  { key := 0x0000000000000000, din := 0x0000000000000000, dout := 0x0000000000000000, status := Status.reset,
    rk := rk, pend := .none }

/-- The working registers' value at reset: DESIGN CHOICE (log entry 2). -/
def Work.reset : Work :=
  { rnd := 0, wl := 0, wr := 0, wc := 0, wd := 0, rks := zeroSchedule }

/-- The datapath latches' value at reset: DESIGN CHOICE (log entry 7). -/
def Datapath.reset : Datapath :=
  { x := 0, y := 0, h := 0, hRot := 0, e := 0, k := 0, mix := 0, sOut := 0, l := 0, r := 0, f := 0, lf := 0,
    lNext := 0, rNext := 0 }

/-- The machine right after reset, with no host program and no event scheduled (R330, R331; log entries 1, 2, 4, 7). -/
def State.reset : State :=
  { arch := Arch.reset zeroSchedule, work := Work.reset, dp := Datapath.reset, host := [], sched := [],
    returned := [], resets := 0 }

end Sys2Proof.Machine
end

