-- ==== Sys2Proof/Machine/Flags.lean ====
section
/-! DEFINITION. The STATUS word and every update of a STATUS field (rules R35 to R42, R262, R263, R303). -/

namespace Sys2Proof.Machine

/-- StatusWord (R262): OVR at bit 8, ECODE at 7:4, ERR 3, DONE 2, KV 1, BUSY 0; bits 63:9 read as 0 (R42). -/
def Status.word (st : Status) : Block64 :=
  (BitVec.ofBool st.ovr ++ st.ecode ++ BitVec.ofBool st.err ++ BitVec.ofBool st.done ++ BitVec.ofBool st.kv ++
    BitVec.ofBool st.busy).setWidth 64

/-- A CMD write while BUSY = 1 sets OVR and nothing else (R41, R263, R306). -/
def Status.overrun (st : Status) : Status := { st with ovr := true }

/-- Acceptance clears DONE, ERR, ECODE and OVR (R263). -/
def Status.accepted (st : Status) : Status :=
  { st with done := false, err := false, ecode := Config.ecodeNone, ovr := false }

/-- A legal command whose preconditions hold sets BUSY (R36, R169, R239). -/
def Status.started (st : Status) : Status := { st with busy := true }

/-- A rejection sets ERR and records the code (R39, R40, R303). -/
def Status.rejected (code : Nibble) (st : Status) : Status := { st with err := true, ecode := code }

/-- Completion of a block operation: DONE set, BUSY cleared; OVR and KV kept (R241). -/
def Status.blockDone (st : Status) : Status := { st with done := true, busy := false }

/-- Completion of KEYSCHED: KV and DONE set, BUSY cleared; OVR kept (R170). -/
def Status.keyDone (st : Status) : Status := { st with kv := true, done := true, busy := false }

end Sys2Proof.Machine
end

