-- ==== Sys2Proof/Machine/Ops.lean ====
section
/-! DEFINITION. The named operations on state that the meanings share: the host's reads and writes, acceptance and
rejection of a command, completion, Reset, and the micro-operations on the datapath. -/

namespace Sys2Proof.Machine

/-! ### The register index space -/

/-- HostRead (R260): the value of a register slot. CMD and the reserved slots read as 0 (R34, R265). -/
def Arch.read (idx : RegIdx) (a : Arch) : Block64 :=
  match idx with
  | .cmd => 0x0000000000000000
  | .status => a.status.word
  | .key => a.key
  | .din => a.din
  | .dout => a.dout
  | .r5 => 0x0000000000000000
  | .r6 => 0x0000000000000000
  | .r7 => 0x0000000000000000

/-- The read transaction: returns the value to the host and has no side effect on the engine (R77, R260). -/
def hostRead (idx : RegIdx) (s : State) : State := { s with returned := s.arch.read idx :: s.returned }

/-! ### A rejected command, the hardware's only exception -/

/-- `raise CmdError(code)` (R303): records the rejection in STATUS, changes nothing else, transfers no control. -/
def cmdError (code : Nibble) (s : State) : State :=
  { s with arch := { s.arch with status := s.arch.status.rejected code } }

/-- Acceptance of a CMD write (R263), which is also the return from an earlier error (R309). -/
def acceptCmd (s : State) : State :=
  { s with arch := { s.arch with status := s.arch.status.accepted } }

/-- A CMD write that arrives while BUSY = 1 is dropped (R263, R306). -/
def dropCmd (s : State) : State :=
  { s with arch := { s.arch with status := s.arch.status.overrun } }

/-! ### Commands -/

/-- An operation starts: PEND takes the operand snapshot and BUSY is set (R36, R44). The sequencer's counter goes to its
load phase, which is no architectural effect (log entry 8). -/
def startOp (p : Pend) (s : State) : State :=
  { s with arch := { s.arch with status := s.arch.status.started, pend := p }, work := { s.work with rnd := 0 } }

/-- The acceptance half of KEYSCHED (R169): snapshots KEY. -/
def startKeysched (s : State) : State := startOp (.ks s.arch.key) s

/-- The acceptance half of ENCRYPT and DECRYPT (R239, R240): NO_KEY while KV = 0, else snapshots DIN. -/
def startBlock (dir : Dir) (s : State) : State :=
  if s.arch.status.kv = false then cmdError Config.ecodeNoKey s else startOp (.blk dir s.arch.din) s

/-- Dispatch (R264). -/
def dispatchCmd (c : Cmd) (s : State) : State :=
  match c with
  | .keysched => startKeysched s
  | .encrypt => startBlock .enc s
  | .decrypt => startBlock .dec s
  | .illegal => cmdError Config.ecodeIllegalCmd s

/-- CmdWrite (R263), with the order of checks of R307: BUSY, then the word, then KV. -/
def cmdWrite (v : Block64) (s : State) : State :=
  if s.arch.status.busy = true then dropCmd s else dispatchCmd (decodeCmd v) (acceptCmd s)

/-- HostWrite (R261): STATUS, DOUT and the reserved slots ignore it (R265, R266); KEY and DIN take it at once (R267). -/
def hostWrite (idx : RegIdx) (v : Block64) (s : State) : State :=
  match idx with
  | .cmd => cmdWrite v s
  | .status => s
  | .key => { s with arch := { s.arch with key := v } }
  | .din => { s with arch := { s.arch with din := v } }
  | .dout => s
  | .r5 => s
  | .r6 => s
  | .r7 => s

/-! ### Completion -/

/-- The one atomic event that publishes a schedule (R79, R170). -/
def Arch.finishKey (sched : Schedule) (a : Arch) : Arch :=
  { a with rk := sched, status := a.status.keyDone, pend := .none }

/-- The one atomic event that commits a block result (R241). -/
def Arch.finishBlock (v : Block64) (a : Arch) : Arch :=
  { a with dout := v, status := a.status.blockDone, pend := .none }

/-- Complete (R270) on the architectural state; with PEND = None the Engine has no step (R269). -/
def Arch.complete (a : Arch) : Arch :=
  match a.pend with
  | .none => a
  | .ks k => a.finishKey (deriveRoundKeys k)
  | .blk dir b => a.finishBlock (cipherBlock dir a.rk b)

/-- Complete, the Engine's step (R270). DESIGN CHOICE: the working registers, which the spec leaves at any value (R45, B2,
B14), keep what they held (log entry 20). -/
def complete (s : State) : State := { s with arch := s.arch.complete }

/-! ### Reset and admission -/

/-- Reset (R330, R332) as an event of a run: an operation in flight is aborted. RK and the working registers are
unspecified afterwards: free values (log entry 3). The host, the schedule and what it has read are no part of the engine;
the datapath's latches keep their values (log entry 7). -/
def resetEvent (s : State) : State :=
  { s with
    arch := Arch.reset (Config.rkAfterReset s.resets s.arch.rk)
    work :=
      { rnd := Config.rndAfterReset s.resets, wl := Config.wlAfterReset s.resets, wr := Config.wrAfterReset s.resets,
        wc := Config.wcAfterReset s.resets, wd := Config.wdAfterReset s.resets,
        rks := Config.rksAfterReset s.resets s.work.rks }
    resets := s.resets + 1 }

/-- The admission of an instance by its tables (R131, R302): one with a malformed table is refused before it runs.
DESIGN CHOICE: a set that is well formed but differs from the printed tables is admitted, and the set only decides the
admission: the machine's tables are always the printed ones (log entry 21). -/
def powerOn (t : TableSet) : Result := if t.wf = true then .next State.reset else .fault .malformedTable

/-! ### The micro-operations, on the datapath -/

/-- A PERM micro-operation drives Y with the selected permutation of X (R133, R141). DESIGN CHOICE: it drives Y alone.
No rule says how PERM.E's result reaches XOR48's operand e (R190), and this model has no such transfer (log entry 19). -/
def Datapath.perm (sel : PermSel) (d : Datapath) : Datapath := { d with y := permux sel d.x }

/-- ROTL28.n (R162). -/
def Datapath.rotl (n : Nat) (d : Datapath) : Datapath := { d with hRot := rotl28 d.h n }

/-- SBOX.i, `i = lane + 1`: reads group `g_i` of the mixed value, drives output lane `i` (R106, R192, R194, R203;
log entry 16). -/
def Datapath.sboxUnit (lane : Fin 8) (d : Datapath) : Datapath :=
  { d with sOut := setLane lane (sboxLane lane d.mix) d.sOut }

/-- XOR48 (R191), of the latches e and k. DESIGN CHOICE: no unit writes its operand e (R190; log entry 19). -/
def Datapath.xorKey (d : Datapath) : Datapath := { d with mix := mixKey d.e d.k }

/-- XOR32 (R207). -/
def Datapath.xorHalf (d : Datapath) : Datapath := { d with lf := mixHalf d.l d.f }

/-- FFUNC (R206). -/
def Datapath.ffuncUnit (d : Datapath) : Datapath := { d with f := ffun d.r d.k }

/-- ROUND (R208). -/
def Datapath.roundUnit (d : Datapath) : Datapath :=
  { d with lNext := (roundPair d.l d.r d.k).1, rNext := (roundPair d.l d.r d.k).2 }

/-- A micro-operation acts on the datapath alone (R141). -/
def State.onDatapath (f : Datapath → Datapath) (s : State) : State := { s with dp := f s.dp }

end Sys2Proof.Machine
end

