-- ==== Sys2Proof/Machine/Commands.lean ====
section
/-! DEFINITION. The meanings of the three commands, the writes of CMD with a legal word (rules R102, R169, R239, R240). -/

namespace Sys2Proof.Machine

/-- KEYSCHED: `WR CMD, 0x1` (R102, R108, R169). -/
def execKeysched (s : State) : Result := .next (hostWrite .cmd 0x0000000000000001 s)

/-- ENCRYPT: `WR CMD, 0x2` (R102, R108, R239). -/
def execEncrypt (s : State) : Result := .next (hostWrite .cmd 0x0000000000000002 s)

/-- DECRYPT: `WR CMD, 0x3` (R102, R108, R240). -/
def execDecrypt (s : State) : Result := .next (hostWrite .cmd 0x0000000000000003 s)

end Sys2Proof.Machine
end

