-- ==== Sys2Proof/Machine/Feistel.lean ====
section
/-! DEFINITION. The meanings of the Feistel micro-operations (rules R191, R194, R206 to R208). -/

namespace Sys2Proof.Machine

/-- SBOX.1 (R194, R195): lane 0 (R106). -/
def execSbox1 (s : State) : Result := .next (s.onDatapath (Datapath.sboxUnit 0))

/-- SBOX.2 (R194, R196): lane 1 (R106). -/
def execSbox2 (s : State) : Result := .next (s.onDatapath (Datapath.sboxUnit 1))

/-- SBOX.3 (R194, R197): lane 2 (R106). -/
def execSbox3 (s : State) : Result := .next (s.onDatapath (Datapath.sboxUnit 2))

/-- SBOX.4 (R194, R198): lane 3 (R106). -/
def execSbox4 (s : State) : Result := .next (s.onDatapath (Datapath.sboxUnit 3))

/-- SBOX.5 (R194, R199): lane 4 (R106). -/
def execSbox5 (s : State) : Result := .next (s.onDatapath (Datapath.sboxUnit 4))

/-- SBOX.6 (R194, R200): lane 5 (R106). -/
def execSbox6 (s : State) : Result := .next (s.onDatapath (Datapath.sboxUnit 5))

/-- SBOX.7 (R194, R201): lane 6 (R106). -/
def execSbox7 (s : State) : Result := .next (s.onDatapath (Datapath.sboxUnit 6))

/-- SBOX.8 (R194, R202): lane 7 (R106). -/
def execSbox8 (s : State) : Result := .next (s.onDatapath (Datapath.sboxUnit 7))

/-- XOR48 (R191). -/
def execXor48 (s : State) : Result := .next (s.onDatapath Datapath.xorKey)

/-- XOR32 (R207). -/
def execXor32 (s : State) : Result := .next (s.onDatapath Datapath.xorHalf)

/-- FFUNC (R206). -/
def execFfunc (s : State) : Result := .next (s.onDatapath Datapath.ffuncUnit)

/-- ROUND (R208). -/
def execRound (s : State) : Result := .next (s.onDatapath Datapath.roundUnit)

end Sys2Proof.Machine
end

