-- ==== Sys2Proof/Machine/HostIo.lean ====
section
/-! DEFINITION. The meanings of the host's register transactions (rules R100, R260 to R267). No transaction is refused
(R273). -/

namespace Sys2Proof.Machine

/-- `RD CMD` (R34, R260). DATA is ignored on issue (R100). -/
def execRdCmd (_data : Block64) (s : State) : Result := .next (hostRead .cmd s)

/-- `RD STATUS` (R260, R262). DATA is ignored on issue (R100). -/
def execRdStatus (_data : Block64) (s : State) : Result := .next (hostRead .status s)

/-- `RD KEY` (R31, R260). DATA is ignored on issue (R100). -/
def execRdKey (_data : Block64) (s : State) : Result := .next (hostRead .key s)

/-- `RD DIN` (R32, R260). DATA is ignored on issue (R100). -/
def execRdDin (_data : Block64) (s : State) : Result := .next (hostRead .din s)

/-- `RD DOUT` (R33, R260). DATA is ignored on issue (R100). -/
def execRdDout (_data : Block64) (s : State) : Result := .next (hostRead .dout s)

/-- `RD R5` (R265). DATA is ignored on issue (R100). -/
def execRdR5 (_data : Block64) (s : State) : Result := .next (hostRead .r5 s)

/-- `RD R6` (R265). DATA is ignored on issue (R100). -/
def execRdR6 (_data : Block64) (s : State) : Result := .next (hostRead .r6 s)

/-- `RD R7` (R265). DATA is ignored on issue (R100). -/
def execRdR7 (_data : Block64) (s : State) : Result := .next (hostRead .r7 s)

/-- `WR CMD, v` (R261, R263). -/
def execWrCmd (v : Block64) (s : State) : Result := .next (hostWrite .cmd v s)

/-- `WR STATUS, v` (R266). -/
def execWrStatus (v : Block64) (s : State) : Result := .next (hostWrite .status v s)

/-- `WR KEY, v` (R261, R267). -/
def execWrKey (v : Block64) (s : State) : Result := .next (hostWrite .key v s)

/-- `WR DIN, v` (R261, R267). -/
def execWrDin (v : Block64) (s : State) : Result := .next (hostWrite .din v s)

/-- `WR DOUT, v` (R266). -/
def execWrDout (v : Block64) (s : State) : Result := .next (hostWrite .dout v s)

/-- `WR R5, v` (R265). -/
def execWrR5 (v : Block64) (s : State) : Result := .next (hostWrite .r5 v s)

/-- `WR R6, v` (R265). -/
def execWrR6 (v : Block64) (s : State) : Result := .next (hostWrite .r6 v s)

/-- `WR R7, v` (R265). -/
def execWrR7 (v : Block64) (s : State) : Result := .next (hostWrite .r7 v s)

end Sys2Proof.Machine
end

