-- ==== Sys2Proof/Machine/Perm.lean ====
section
/-! DEFINITION. The meanings of the PERM micro-operations (rules R133 to R141): the multiplexer drives Y from X. -/

namespace Sys2Proof.Machine

/-- PERM.IP (R134). -/
def execPermIp (s : State) : Result := .next (s.onDatapath (Datapath.perm .ip))

/-- PERM.FP (R135). -/
def execPermFp (s : State) : Result := .next (s.onDatapath (Datapath.perm .fp))

/-- PERM.E (R137). -/
def execPermE (s : State) : Result := .next (s.onDatapath (Datapath.perm .e))

/-- PERM.P (R138). -/
def execPermP (s : State) : Result := .next (s.onDatapath (Datapath.perm .p))

/-- PERM.PC1 (R139). -/
def execPermPc1 (s : State) : Result := .next (s.onDatapath (Datapath.perm .pc1))

/-- PERM.PC2 (R140). -/
def execPermPc2 (s : State) : Result := .next (s.onDatapath (Datapath.perm .pc2))

end Sys2Proof.Machine
end

