-- ==== Sys2Proof/Machine/Rotate.lean ====
section
/-! DEFINITION. The meanings of the rotation micro-operations (rules R107, R162). -/

namespace Sys2Proof.Machine

/-- ROTL28.1 (R162). -/
def execRotl28By1 (s : State) : Result := .next (s.onDatapath (Datapath.rotl 1))

/-- ROTL28.2 (R162). -/
def execRotl28By2 (s : State) : Result := .next (s.onDatapath (Datapath.rotl 2))

end Sys2Proof.Machine
end

