-- ==== Sys2Proof/Machine/Dispatch.lean ====
section
/-! DEFINITION. The dispatch: one arm per instruction, each a call of its meaning. -/

namespace Sys2Proof.Machine

def exec (i : Instr) (s : State) : Host.Outcome State Fault Refusal :=
  match i with
  | .rdCmd data => Sys2Proof.Machine.execRdCmd data s
  | .rdStatus data => Sys2Proof.Machine.execRdStatus data s
  | .rdKey data => Sys2Proof.Machine.execRdKey data s
  | .rdDin data => Sys2Proof.Machine.execRdDin data s
  | .rdDout data => Sys2Proof.Machine.execRdDout data s
  | .rdR5 data => Sys2Proof.Machine.execRdR5 data s
  | .rdR6 data => Sys2Proof.Machine.execRdR6 data s
  | .rdR7 data => Sys2Proof.Machine.execRdR7 data s
  | .wrCmd v => Sys2Proof.Machine.execWrCmd v s
  | .wrStatus v => Sys2Proof.Machine.execWrStatus v s
  | .wrKey v => Sys2Proof.Machine.execWrKey v s
  | .wrDin v => Sys2Proof.Machine.execWrDin v s
  | .wrDout v => Sys2Proof.Machine.execWrDout v s
  | .wrR5 v => Sys2Proof.Machine.execWrR5 v s
  | .wrR6 v => Sys2Proof.Machine.execWrR6 v s
  | .wrR7 v => Sys2Proof.Machine.execWrR7 v s
  | .keysched => Sys2Proof.Machine.execKeysched s
  | .encrypt => Sys2Proof.Machine.execEncrypt s
  | .decrypt => Sys2Proof.Machine.execDecrypt s
  | .permIp => Sys2Proof.Machine.execPermIp s
  | .permFp => Sys2Proof.Machine.execPermFp s
  | .permE => Sys2Proof.Machine.execPermE s
  | .permP => Sys2Proof.Machine.execPermP s
  | .permPc1 => Sys2Proof.Machine.execPermPc1 s
  | .permPc2 => Sys2Proof.Machine.execPermPc2 s
  | .rotl28By1 => Sys2Proof.Machine.execRotl28By1 s
  | .rotl28By2 => Sys2Proof.Machine.execRotl28By2 s
  | .sbox1 => Sys2Proof.Machine.execSbox1 s
  | .sbox2 => Sys2Proof.Machine.execSbox2 s
  | .sbox3 => Sys2Proof.Machine.execSbox3 s
  | .sbox4 => Sys2Proof.Machine.execSbox4 s
  | .sbox5 => Sys2Proof.Machine.execSbox5 s
  | .sbox6 => Sys2Proof.Machine.execSbox6 s
  | .sbox7 => Sys2Proof.Machine.execSbox7 s
  | .sbox8 => Sys2Proof.Machine.execSbox8 s
  | .xor48 => Sys2Proof.Machine.execXor48 s
  | .xor32 => Sys2Proof.Machine.execXor32 s
  | .ffunc => Sys2Proof.Machine.execFfunc s
  | .round => Sys2Proof.Machine.execRound s

end Sys2Proof.Machine
end

