-- ==== Sys2Proof/Machine/Sequencer.lean ====
section
/-! DEFINITION. The reference sequencing (R238, informative): the Engine as an implementation that works one cycle at a
time on its working registers and drives the datapath's micro-operations. Only its last cycle is architectural: it is
the completion (log entry 9). -/

namespace Sys2Proof.Machine

/-- Cycle 1 of a block operation: PERM.IP of the snapshot, split, RND <- 1 (R238). -/
def seqBlockLoad (b : Block64) (s : State) : State :=
  let d := Datapath.perm .ip { s.dp with x := b }
  { s with dp := d, work := { s.work with wl := hi32 d.y, wr := lo32 d.y, rnd := 1 } }

/-- Cycles 2..17 of a block operation: ROUND under KeyFor(dir, RND), RND <- RND + 1 (R238). -/
def seqBlockRound (dir : Dir) (s : State) : State :=
  let d := Datapath.roundUnit
    { s.dp with l := s.work.wl, r := s.work.wr, k := keyFor dir s.arch.rk s.work.rnd.toNat }
  { s with dp := d, work := { s.work with wl := d.lNext, wr := d.rNext, rnd := s.work.rnd + 1 } }

/-- Cycle 18 of a block operation: completion with PERM.FP of WR then WL (R238, R241). DESIGN CHOICE: the working registers,
unspecified between two operations (R238, B14), keep their last values, RND = 17 among them (log entry 20). -/
def seqBlockFinish (s : State) : State :=
  let d := Datapath.perm .fp { s.dp with x := s.work.wr ++ s.work.wl }
  { s with dp := d, arch := s.arch.finishBlock d.y }

/-- Cycle 1 of KEYSCHED: PERM.PC1 of the snapshot, split, RND <- 1 (R238). -/
def seqKeyLoad (k : MasterKey64) (s : State) : State :=
  let d := Datapath.perm .pc1 { s.dp with x := k }
  { s with dp := d, work := { s.work with wc := hi28 (d.y.setWidth 56), wd := lo28 (d.y.setWidth 56), rnd := 1 } }

/-- Cycles 2..17 of KEYSCHED: ROTL28.SHIFTS[RND] for C and for D (R107), PERM.PC2, RKS[RND] written, RND <- RND + 1
(R238). -/
def seqKeyRound (s : State) : State :=
  let r := s.work.rnd.toNat
  let dc := Datapath.rotl (shiftOf r) { s.dp with h := s.work.wc }
  let dd := Datapath.rotl (shiftOf r) { dc with h := s.work.wd }
  let d := Datapath.perm .pc2 { dd with x := (dc.hRot ++ dd.hRot).setWidth 64 }
  { s with
    dp := d
    work :=
      { s.work with
        wc := dc.hRot, wd := dd.hRot, rks := s.work.rks.setIfInBounds (r - 1) (d.y.setWidth 48),
        rnd := s.work.rnd + 1 } }

/-- The end of cycle 17 of KEYSCHED: completion, RK <- RKS (R170, R238). DESIGN CHOICE: the working registers keep their
last values, RND = 17 among them (log entry 20). -/
def seqKeyFinish (s : State) : State := { s with arch := s.arch.finishKey s.work.rks }

/-- One cycle of the reference sequencer (R238). RND = 0 is the load phase, 1..16 are the rounds, 17 the completion of a
block operation. No other value of RND occurs while an operation is in flight, and none makes progress (log entry 8).
With PEND = None nothing happens. -/
def seqCycle (s : State) : State :=
  match s.arch.pend with
  | .none => s
  | .ks k =>
    if s.work.rnd.toNat = 0 then seqKeyLoad k s
    else if s.work.rnd.toNat < 16 then seqKeyRound s
    else if s.work.rnd.toNat = 16 then seqKeyFinish (seqKeyRound s)
    else s
  | .blk dir b =>
    if s.work.rnd.toNat = 0 then seqBlockLoad b s
    else if s.work.rnd.toNat ≤ 16 then seqBlockRound dir s
    else if s.work.rnd.toNat = 17 then seqBlockFinish s
    else s

end Sys2Proof.Machine
end

