-- ==== Sys2Proof/Machine/Fetch.lean ====
section
/-! DEFINITION. Which event comes next (rules R78, R109, R268 to R272): the schedule in State says which agent moves;
a turn of the Host or of the datapath yields an instruction to run. -/

namespace Sys2Proof.Machine

/-- What the next event is. -/
inductive Fetched where
  /-- An instruction runs in a state from which its word has been taken. -/
  | run (i : Instr) (s : State)
  /-- An event of another agent, or none: the state it leaves. -/
  | event (s : State)
  /-- A word that is no instruction. -/
  | refuse (r : Refusal)
  deriving DecidableEq, Repr

/-- A Host turn: the next item of the host's program (R268). POLL is one read of STATUS a turn, and the item goes when
that read returns bit 0 = 0 (R109; log entry 11). With nothing left the Host does not move (R272; log entry 6). -/
def hostTurn (s : State) : Fetched :=
  match s.host with
  | [] => .event s
  | .txn w :: rest => .run (decodeHost w) { s with host := rest }
  | .poll :: rest =>
    if (s.arch.read .status).getLsbD 0 = false then .run (.rdStatus 0) { s with host := rest }
    else .run (.rdStatus 0) s

/-- A turn that drives the datapath with a select word; a reserved one is refused (R105). -/
def uopTurn (u : Select8) (s : State) : Fetched :=
  match decode (.uop8 u) with
  | .ok i => .run i s
  | .error (.reservedSelect u) => .refuse (.reservedSelect u)

/-- The next event of a state whose schedule says nothing more: the Engine's Complete if it is enabled, else the Host's
next item. So every run is weakly fair (R271), and a run whose Host has stopped ends after its last Complete (R272;
log entry 5). -/
def defaultTurn (s : State) : Fetched :=
  match s.arch.pend with
  | .none => hostTurn s
  | _ => .event (complete s)

/-- The next event (R78). -/
def fetch (s : State) : Fetched :=
  match s.sched with
  | [] => defaultTurn s
  | .host :: rest => hostTurn { s with sched := rest }
  | .engine :: rest => .event (complete { s with sched := rest })
  | .cycle :: rest => .event (seqCycle { s with sched := rest })
  | .reset :: rest => .event (resetEvent { s with sched := rest })
  | .uop u :: rest => uopTurn u { s with sched := rest }

/-- Puts an encoded instruction where the next step fetches it: a transaction at the head of the host's program with the
Host's turn next, or a select word as the next turn (log entry 4). -/
def placeNext (c : Encoded) (s : State) : State :=
  match c with
  | .host68 w => { s with host := .txn w :: s.host, sched := .host :: s.sched }
  | .uop8 u => { s with sched := .uop u :: s.sched }

end Sys2Proof.Machine
end

