-- ==== Sys2Proof/Machine/Step.lean ====
section
/-! DEFINITION. One step of the machine: one event of the total order (R78). -/

namespace Sys2Proof.Machine

/-- One event: an instruction runs, another agent's event happens, or a word that is no instruction is refused. -/
def step (s : State) : Host.Outcome State Fault Refusal :=
  match fetch s with
  | .run i s' => exec i s'
  | .event s' => .next s'
  | .refuse r => .refused r

/-- The state with an opcode-table word stored where `step` fetches next (log entries 4 and 13). A word that is no
record of its length is not placed. -/
def State.withFetchWord (s : State) (nbits w : Nat) : State :=
  match encodedOfTable nbits w with
  | some c => placeNext c s
  | none => s

end Sys2Proof.Machine
end

