-- ==== Sys2Proof/Safety.lean ====
section
/-! DEFINITION. What claims are stated in: the invariants of rule R48, the sequencer's invariant (R238), what a schedule
may hold, and the states a run can reach (R272, R330). -/

namespace Sys2Proof.Machine

/-- The seven invariants of R48, clause by clause. -/
structure Arch.Inv (a : Arch) : Prop where
  /-- (1) BUSY = 1 exactly when PEND is not None. -/
  busy_iff : a.status.busy = true ↔ a.pend ≠ .none
  /-- (2) ERR = 1 exactly when ECODE is not 0. -/
  err_iff : a.status.err = true ↔ a.status.ecode ≠ 0
  /-- (3) ERR = 1 implies BUSY = 0 and DONE = 0. -/
  err_idle : a.status.err = true → a.status.busy = false ∧ a.status.done = false
  /-- (4) DONE = 1 implies BUSY = 0. -/
  done_idle : a.status.done = true → a.status.busy = false
  /-- (5) ECODE is 0, 1 or 2. -/
  ecode_legal : a.status.ecode = 0 ∨ a.status.ecode = 1 ∨ a.status.ecode = 2
  /-- (6) STATUS bits 63:9 are 0. -/
  reserved_zero : ∀ i, 9 ≤ i → (a.read .status).getLsbD i = false
  /-- (7) A block operation in flight implies KV = 1. -/
  block_has_key : ∀ dir b, a.pend = .blk dir b → a.status.kv = true

/-- R37: KV = 1 only while RK holds a complete derived schedule. -/
def Arch.KeyValid (a : Arch) : Prop := a.status.kv = true → ∃ k, a.rk = deriveRoundKeys k

/-- What the reference sequencer's working registers hold while an operation is in flight (R238): after the load cycle
RND is the next round `r`, and the registers hold what the rules give after round `r - 1`. -/
def SeqInv (s : State) : Prop :=
  match s.arch.pend with
  | .none => True
  | .ks k =>
    s.work.rnd.toNat ≤ 16 ∧
      (1 ≤ s.work.rnd.toNat →
        (s.work.wc, s.work.wd) = halvesAfter k (s.work.rnd.toNat - 1) ∧
          ∀ r, 1 ≤ r → r < s.work.rnd.toNat → rkAt s.work.rks r = rkAt (deriveRoundKeys k) r)
  | .blk dir b =>
    s.work.rnd.toNat ≤ 17 ∧
      (1 ≤ s.work.rnd.toNat →
        (s.work.wl, s.work.wr) = roundsAfter dir s.arch.rk b (s.work.rnd.toNat - 1))

/-- A turn the spec defines: a select word that is driven is not reserved (R105). -/
def turnDefined : Turn → Bool
  | .uop u => (decodeUop u).isOk
  | _ => true

/-- The STATUS values R262 lists. -/
def statusValues : List Block64 := [0x0, 0x1, 0x3, 0x6, 0x18, 0x1A, 0x28, 0x101, 0x103, 0x106]

/-- The states of the runs of every host program under every schedule from reset (R272, R330; log entries 4 and 5). -/
inductive Reachable : State → Prop where
  | start (host : List HostItem) (sched : List Turn) :
      Reachable { State.reset with host := host, sched := sched }
  | next (s t : State) : Reachable s → step s = .next t → Reachable t

/-- What a host write leaves outside the architectural state: everything, but for the sequencer's counter RND, which is
not architectural (R45; log entry 8). -/
def SameOutside (s t : State) : Prop :=
  t.dp = s.dp ∧ t.host = s.host ∧ t.sched = s.sched ∧ t.returned = s.returned ∧ t.resets = s.resets ∧
    ∃ rnd, t.work = { s.work with rnd := rnd }

/-- The micro-operation SBOX.i of lane `i - 1` (R106). -/
def sboxInstr (lane : Fin 8) : Instr :=
  #v[Instr.sbox1, .sbox2, .sbox3, .sbox4, .sbox5, .sbox6, .sbox7, .sbox8][lane]

/-- Instructions one after another. -/
def execAll : List Instr → State → Result
  | [], s => .next s
  | i :: is, s =>
    match exec i s with
    | .next t => execAll is t
    | .fault r => .fault r
    | .refused r => .refused r

/-- A run of `n` steps that neither faults nor is refused ends in this state. -/
def runsTo (n : Nat) (s t : State) : Prop := Host.Core.run Sys2Proof.core n s = .next t

end Sys2Proof.Machine
end

