-- ==== Sys2Proof/Certificates/Slice0/Obligations.lean ====
section
/-! DEFINITION. The statements for the provers, from the numbered rules of spec/. -/

open Sys2Proof Sys2Proof.Machine

/-! ### Host transactions -/

/-- R260: what each read returns to the host, and that nothing else changes. The value returned is kept at the head of
`returned`, where the model records it (log entry 10). -/
def Obligations.ReadsReturnTheRegister : Prop :=
  ∀ (d : Block64) (s : State),
    exec (.rdCmd d) s = .next { s with returned := 0x0000000000000000 :: s.returned } ∧
    exec (.rdStatus d) s = .next { s with returned := s.arch.status.word :: s.returned } ∧
    exec (.rdKey d) s = .next { s with returned := s.arch.key :: s.returned } ∧
    exec (.rdDin d) s = .next { s with returned := s.arch.din :: s.returned } ∧
    exec (.rdDout d) s = .next { s with returned := s.arch.dout :: s.returned } ∧
    exec (.rdR5 d) s = .next { s with returned := 0x0000000000000000 :: s.returned } ∧
    exec (.rdR6 d) s = .next { s with returned := 0x0000000000000000 :: s.returned } ∧
    exec (.rdR7 d) s = .next { s with returned := 0x0000000000000000 :: s.returned }

/-- R35, R42, R262: where each field stands in the word a read of STATUS returns, and that bits 63:9 read as 0. -/
def Obligations.StatusWordLayout : Prop :=
  ∀ st : Status,
    st.word.getLsbD 0 = st.busy ∧ st.word.getLsbD 1 = st.kv ∧ st.word.getLsbD 2 = st.done ∧
    st.word.getLsbD 3 = st.err ∧ st.word.extractLsb' 4 4 = st.ecode ∧ st.word.getLsbD 8 = st.ovr ∧
    ∀ i, 9 ≤ i → st.word.getLsbD i = false

/-- R261, R267: a write of KEY or DIN replaces that register at once, whatever BUSY is, and nothing else. -/
def Obligations.KeyAndDinWrites : Prop :=
  ∀ (v : Block64) (s : State),
    exec (.wrKey v) s = .next { s with arch := { s.arch with key := v } } ∧
    exec (.wrDin v) s = .next { s with arch := { s.arch with din := v } }

/-- R266: writes to STATUS and DOUT have no effect. -/
def Obligations.StatusAndDoutWritesIgnored : Prop :=
  ∀ (v : Block64) (s : State), exec (.wrStatus v) s = .next s ∧ exec (.wrDout v) s = .next s

/-- R265: the reserved indices read as 0 and ignore writes; no field of STATUS changes. -/
def Obligations.ReservedSlotsReadZeroIgnoreWrites : Prop :=
  ∀ (v : Block64) (s : State),
    exec (.rdR5 v) s = .next { s with returned := 0x0000000000000000 :: s.returned } ∧
    exec (.rdR6 v) s = .next { s with returned := 0x0000000000000000 :: s.returned } ∧
    exec (.rdR7 v) s = .next { s with returned := 0x0000000000000000 :: s.returned } ∧
    exec (.wrR5 v) s = .next s ∧ exec (.wrR6 v) s = .next s ∧ exec (.wrR7 v) s = .next s

/-! ### Commands -/

/-- R306: a CMD write while BUSY = 1, whatever its word, sets OVR and has no other effect; the operation in flight then
completes as it would have, and OVR stays set through that completion; only an accepted CMD write or Reset clears OVR.
-/
def Obligations.BusyDropsCommands : Prop :=
  (∀ (v : Block64) (s : State) (i : Instr), s.arch.status.busy = true →
    i = .wrCmd v ∨ i = .keysched ∨ i = .encrypt ∨ i = .decrypt →
    ∃ t, exec i s = .next t ∧
      t = { s with arch := { s.arch with status := { s.arch.status with ovr := true } } } ∧
      t.arch.complete = { s.arch.complete with status := { s.arch.complete.status with ovr := true } }) ∧
  (∀ s t : State, step s = .next t → s.arch.status.ovr = true → t.arch.status.ovr = false →
    (∃ rest, s.sched = .reset :: rest) ∨
    (s.arch.status.busy = false ∧
      ∃ w rest, s.host = .txn w :: rest ∧ w.extractLsb' 67 1 = 1 ∧ w.extractLsb' 64 3 = 0))

/-- R103, R304: an accepted word other than 0x1, 0x2 and 0x3 records ILLEGAL_CMD and nothing else. KV is kept. -/
def Obligations.IllegalCommandRecorded : Prop :=
  ∀ (v : Block64) (s : State), s.arch.status.busy = false → v ≠ 0x1 → v ≠ 0x2 → v ≠ 0x3 →
    exec (.wrCmd v) s =
      .next
        { s with
          arch :=
            { s.arch with
              status :=
                { busy := false, kv := s.arch.status.kv, done := false, err := true, ecode := 1, ovr := false } } }

/-- R169 (with R263's acceptance): KEYSCHED while BUSY = 0 snapshots KEY into PEND and sets BUSY; acceptance has cleared
DONE, ERR, ECODE and OVR; KV and every other register are unchanged. -/
def Obligations.KeyschedStarts : Prop :=
  ∀ (s : State) (i : Instr), s.arch.status.busy = false → i = .keysched ∨ i = .wrCmd 0x1 →
    ∃ t, exec i s = .next t ∧ SameOutside s t ∧
      t.arch =
        { s.arch with
          status :=
            { busy := true, kv := s.arch.status.kv, done := false, err := false, ecode := 0, ovr := false }
          pend := .ks s.arch.key }

/-- R239, R240, R305 (with R263's acceptance): ENCRYPT or DECRYPT while BUSY = 0. With KV = 1 it snapshots DIN into PEND
with its direction and sets BUSY; with KV = 0 it records NO_KEY. Every other register is unchanged. -/
def Obligations.BlockCommandsStartOrReject : Prop :=
  ∀ (s : State) (dir : Dir) (i : Instr), s.arch.status.busy = false →
    (dir = .enc ∧ (i = .encrypt ∨ i = .wrCmd 0x2)) ∨ (dir = .dec ∧ (i = .decrypt ∨ i = .wrCmd 0x3)) →
    (s.arch.status.kv = true →
      ∃ t, exec i s = .next t ∧ SameOutside s t ∧
        t.arch =
          { s.arch with
            status := { busy := true, kv := true, done := false, err := false, ecode := 0, ovr := false }
            pend := .blk dir s.arch.din }) ∧
    (s.arch.status.kv = false →
      exec i s =
        .next
          { s with
            arch :=
              { s.arch with
                status := { busy := false, kv := false, done := false, err := true, ecode := 2, ovr := false } } })

/-- R308: a command that was rejected is rejected again, the same way, if it is reissued without a change of state. -/
def Obligations.RejectedCommandRepeats : Prop :=
  ∀ (s t : State) (v : Block64) (i : Instr), s.arch.status.busy = false →
    i = .wrCmd v ∨ i = .keysched ∨ i = .encrypt ∨ i = .decrypt →
    exec i s = .next t → t.arch.status.err = true → exec i t = .next t

/-- R244, R306: while an operation is in flight no instruction starts another, ends it or changes its snapshot; the
operation's result so far, RK and DOUT, stays as it was. -/
def Obligations.InstructionsKeepOperationInFlight : Prop :=
  ∀ (i : Instr) (s t : State), s.arch.status.busy = true → exec i s = .next t →
    t.arch.status.busy = true ∧ t.arch.pend = s.arch.pend ∧ t.arch.rk = s.arch.rk ∧ t.arch.dout = s.arch.dout ∧
      t.arch.status.kv = s.arch.status.kv ∧ t.arch.status.done = s.arch.status.done

/-! ### Completion -/

/-- R170, R241, R270: the Engine's turn with an operation in flight. A KEYSCHED publishes the whole derived schedule
with KV and DONE; a block operation commits the whole result with DONE. KEY, DIN, OVR and everything else are unchanged.
That an Engine's turn with PEND = None uses the turn up and changes nothing else is the model's (log entry 6), and so is
that a completion leaves the working registers as they were (log entry 20). -/
def Obligations.EngineTurnCompletes : Prop :=
  ∀ (s : State) (rest : List Turn), s.sched = .engine :: rest →
    (s.arch.pend = .none → step s = .next { s with sched := rest }) ∧
    (∀ k, s.arch.pend = .ks k →
      step s =
        .next
          { s with
            sched := rest
            arch :=
              { s.arch with
                rk := deriveRoundKeys k, pend := .none,
                status := { s.arch.status with kv := true, done := true, busy := false } } }) ∧
    (∀ b, s.arch.pend = .blk .enc b →
      step s =
        .next
          { s with
            sched := rest
            arch :=
              { s.arch with
                dout := encryptBlock b s.arch.rk, pend := .none,
                status := { s.arch.status with done := true, busy := false } } }) ∧
    (∀ b, s.arch.pend = .blk .dec b →
      step s =
        .next
          { s with
            sched := rest
            arch :=
              { s.arch with
                dout := decryptBlock b s.arch.rk, pend := .none,
                status := { s.arch.status with done := true, busy := false } } })

/-- R338: a write of KEY or DIN after acceptance does not change what the operation in flight completes with, and a
command right after such a write sees the value just written. -/
def Obligations.OperandSnapshotIsolated : Prop :=
  ∀ (v : Block64) (s : State),
    (∃ t, exec (.wrKey v) s = .next t ∧ t.arch.complete = { s.arch.complete with key := v } ∧
      (s.arch.status.busy = false → ∃ u, exec .keysched t = .next u ∧ u.arch.pend = .ks v)) ∧
    (∃ t, exec (.wrDin v) s = .next t ∧ t.arch.complete = { s.arch.complete with din := v } ∧
      (s.arch.status.busy = false → s.arch.status.kv = true →
        (∃ u, exec .encrypt t = .next u ∧ u.arch.pend = .blk .enc v) ∧
        ∃ u, exec .decrypt t = .next u ∧ u.arch.pend = .blk .dec v))

/-- R242: the only state a result reads is the operand snapshot and RK. Two states that agree on PEND and RK complete
with the same RK, and with the same DOUT if the operation is a block operation. -/
def Obligations.ResultsReadOnlySnapshotAndKeys : Prop :=
  ∀ (s t s' t' : State) (rs rt : List Turn), s.sched = .engine :: rs → t.sched = .engine :: rt →
    s.arch.pend = t.arch.pend → s.arch.rk = t.arch.rk → step s = .next s' → step t = .next t' →
    s'.arch.rk = t'.arch.rk ∧ ((∃ dir b, s.arch.pend = .blk dir b) → s'.arch.dout = t'.arch.dout)

/-! ### Rules of the whole machine -/

/-- R43, R79, R171: RK changes only by the completion of KEYSCHED, whole and together with KV = 1, or by Reset, which
leaves KV = 0. SeqInv rules out working registers no run reaches; SequencerInvariantKept states it. -/
def Obligations.SchedulePublishedWhole : Prop :=
  ∀ s t : State, SeqInv s → step s = .next t → t.arch.rk ≠ s.arch.rk →
    (∃ k, s.arch.pend = .ks k ∧ t.arch.rk = deriveRoundKeys k ∧ t.arch.pend = .none ∧
      t.arch.status.kv = true ∧ t.arch.status.done = true ∧ t.arch.status.busy = false) ∨
    ((∃ rest, s.sched = .reset :: rest) ∧ t.arch.status.kv = false)

/-- R33: DOUT changes only by the completion of a block operation, to its whole result, or by Reset, to 0. SeqInv rules
out working registers no run reaches; SequencerInvariantKept states it. -/
def Obligations.DoutChangesOnlyByCompletion : Prop :=
  ∀ s t : State, SeqInv s → step s = .next t → t.arch.dout ≠ s.arch.dout →
    (∃ dir b, s.arch.pend = .blk dir b ∧ t.arch.dout = cipherBlock dir s.arch.rk b ∧ t.arch.pend = .none ∧
      t.arch.status.done = true ∧ t.arch.status.busy = false) ∨
    ((∃ rest, s.sched = .reset :: rest) ∧ t.arch.dout = 0)

/-- R31, R32: only the host's write of KEY changes KEY, and only its write of DIN changes DIN, but for Reset. -/
def Obligations.KeyAndDinChangeOnlyByHostWrite : Prop :=
  ∀ s t : State, step s = .next t →
    (t.arch.key ≠ s.arch.key →
      (∃ w rest, s.host = .txn w :: rest ∧ decode (.host68 w) = .ok (.wrKey t.arch.key)) ∨
      (∃ rest, s.sched = .reset :: rest)) ∧
    (t.arch.din ≠ s.arch.din →
      (∃ w rest, s.host = .txn w :: rest ∧ decode (.host68 w) = .ok (.wrDin t.arch.din)) ∨
      (∃ rest, s.sched = .reset :: rest))

/-- R37: no event but Reset clears KV, and only the completion of KEYSCHED sets it. -/
def Obligations.KeyValidSetAndClearedOnly : Prop :=
  ∀ s t : State, step s = .next t →
    (s.arch.status.kv = true → t.arch.status.kv = false → ∃ rest, s.sched = .reset :: rest) ∧
    (s.arch.status.kv = false → t.arch.status.kv = true → (∃ k, s.arch.pend = .ks k) ∧ t.arch.pend = .none)

/-- R78, R268: every step is at most one architectural event: nothing, the Host's write of the register and value that
the transaction at the head of its program names, the Engine's Complete (enabled), or Reset, each in its own agent's
turn. And R36, R44: PEND and BUSY leave idle only by the Host's write of CMD with a legal word, accepted with its
preconditions met. SeqInv rules out working registers no run reaches. That the turns stand in a schedule, and whose turn
it is when the schedule is spent, is the model's (log entries 5 and 9). -/
def Obligations.EveryStepIsOneEvent : Prop :=
  ∀ s t : State, SeqInv s → step s = .next t →
    (t.arch = s.arch ∨
      (∃ w rest, s.host = .txn w :: rest ∧ txnIsWrite w = true ∧ t.host = rest ∧
        ((∃ turns, s.sched = .host :: turns) ∨ (s.sched = [] ∧ s.arch.pend = .none)) ∧
        t.arch = (hostWrite (RegIdx.ofIndex (txnIndex w)) (txnData w) s).arch) ∨
      (s.arch.pend ≠ .none ∧
        ((∃ turns, s.sched = .engine :: turns) ∨ (∃ turns, s.sched = .cycle :: turns) ∨ s.sched = []) ∧
        t.arch = s.arch.complete) ∨
      ((∃ turns, s.sched = .reset :: turns) ∧ ∃ rk, t.arch = Arch.reset rk)) ∧
    ((s.arch.pend = .none ∧ t.arch.pend ≠ .none) ∨ (s.arch.status.busy = false ∧ t.arch.status.busy = true) →
      s.arch.status.busy = false ∧
      ∃ w rest, s.host = .txn w :: rest ∧ txnIsWrite w = true ∧ RegIdx.ofIndex (txnIndex w) = .cmd ∧
        (txnData w = 0x1 ∨ (s.arch.status.kv = true ∧ (txnData w = 0x2 ∨ txnData w = 0x3))))

/-! ### Reset -/

/-- R331: the value of every register the spec gives a reset value, and that a run starts with no operation in flight.
RK and the working registers have no value in the spec: this states none. -/
def Obligations.ResetLeavesTheseValues : Prop :=
  State.reset.arch.key = 0x0000000000000000 ∧ State.reset.arch.din = 0x0000000000000000 ∧
  State.reset.arch.dout = 0x0000000000000000 ∧ State.reset.arch.status.word = 0x0000000000000000 ∧
  State.reset.arch.read .cmd = 0x0000000000000000 ∧
  State.reset.arch.status =
    { busy := false, kv := false, done := false, err := false, ecode := 0, ovr := false } ∧
  State.reset.arch.pend = .none

/-- R330, R332: a Reset event, whatever is in flight: every register gets its reset value, the operation is aborted, and
RK is some store (a free value, log entry 3). The host's program and what it has read are untouched. -/
def Obligations.ResetEventAborts : Prop :=
  ∀ (s : State) (rest : List Turn), s.sched = .reset :: rest →
    ∃ t, step s = .next t ∧ t.sched = rest ∧ t.host = s.host ∧ t.returned = s.returned ∧
      ∃ rk, t.arch =
        { key := 0x0000000000000000, din := 0x0000000000000000, dout := 0x0000000000000000,
          status := { busy := false, kv := false, done := false, err := false, ecode := 0, ovr := false },
          rk := rk, pend := .none }

/-- R333: after reset KEYSCHED is accepted (STATUS = 0x1), ENCRYPT and DECRYPT are rejected with NO_KEY (0x28), any
other word with ILLEGAL_CMD (0x18), and DOUT reads as 0. For any contents of RK. -/
def Obligations.CommandsAfterReset : Prop :=
  ∀ (s : State) (rk : Schedule), s.arch = Arch.reset rk →
    (∃ t, exec .keysched s = .next t ∧ t.arch.pend = .ks 0 ∧ t.arch.status.word = 0x1) ∧
    (∃ t, exec .encrypt s = .next t ∧ t.arch.pend = .none ∧ t.arch.status.word = 0x28) ∧
    (∃ t, exec .decrypt s = .next t ∧ t.arch.pend = .none ∧ t.arch.status.word = 0x28) ∧
    (∀ v, v ≠ 0x1 → v ≠ 0x2 → v ≠ 0x3 →
      ∃ t, exec (.wrCmd v) s = .next t ∧ t.arch.pend = .none ∧ t.arch.status.word = 0x18) ∧
    (∀ d, ∃ t, exec (.rdDout d) s = .next t ∧ t.returned = 0 :: s.returned)

/-! ### Invariants -/

/-- R48 holds in the state after reset, with any host program and any schedule; and so do KeyValid and SeqInv. -/
def Obligations.InvariantsHoldAtReset : Prop :=
  ∀ (host : List HostItem) (sched : List Turn),
    let s := { State.reset with host := host, sched := sched }
    s.arch.Inv ∧ s.arch.KeyValid ∧ SeqInv s

/-- R48: every step keeps the seven invariants. -/
def Obligations.StatusInvariantsKept : Prop :=
  ∀ s t : State, s.arch.Inv → step s = .next t → t.arch.Inv

/-- R262: every step keeps STATUS among the ten values of the list. -/
def Obligations.ListedStatusValuesKept : Prop :=
  ∀ s t : State, s.arch.Inv → s.arch.status.word ∈ statusValues → step s = .next t →
    t.arch.status.word ∈ statusValues

/-- R262: the STATUS values some run reaches, over every host program and schedule (log entries 4 and 5), are exactly
the ten of the list. -/
def Obligations.ReachableStatusValues : Prop :=
  ∀ w : Block64, (∃ s, Reachable s ∧ s.arch.status.word = w) ↔ w ∈ statusValues

/-- R238: every step keeps what the sequencer's working registers hold. That RND is 0 from acceptance to the load cycle
and 17 in the last cycle of a block operation is the model's, not R238's (log entry 8). -/
def Obligations.SequencerInvariantKept : Prop :=
  ∀ s t : State, SeqInv s → step s = .next t → SeqInv t

/-- R37: every step keeps "KV = 1 only while RK holds a complete derived schedule", with SeqInv, which every step keeps
too. -/
def Obligations.KeyValidMeansDerivedKept : Prop :=
  ∀ s t : State, SeqInv s → s.arch.KeyValid → step s = .next t → t.arch.KeyValid

/-! ### The reference sequencer -/

/-- R45, R238: a cycle of the sequencer is never refused, and it either has no architectural effect or is exactly the
Engine's Complete, in every state whose working registers SeqInv allows. SeqInv's range of RND is the model's (log entry
8), and so are cycle turns (log entry 9). -/
def Obligations.SequencerRefinesComplete : Prop :=
  ∀ (s : State) (rest : List Turn), SeqInv s → s.sched = .cycle :: rest →
    ∃ t, step s = .next t ∧ t.sched = rest ∧ t.host = s.host ∧ t.returned = s.returned ∧
      (t.arch = s.arch ∨ (s.arch.pend ≠ .none ∧ t.arch = s.arch.complete))

/-- R238, R341(3): from the start of an operation the reference sequencing completes a block operation in its 18th cycle
and a KEYSCHED in its 17th, and not before. That an operation starts with RND = 0 is the model's choice (log entry 8).
-/
def Obligations.SequencerLatency : Prop :=
  ∀ (s : State) (rest : List Turn), s.work.rnd = 0 →
    (∀ dir b, s.arch.pend = .blk dir b →
      (∀ n, n < 18 → ∃ t, runsTo n { s with sched := List.replicate n .cycle ++ rest } t ∧ t.arch = s.arch) ∧
      ∃ t, runsTo 18 { s with sched := List.replicate 18 .cycle ++ rest } t ∧ t.arch = s.arch.complete) ∧
    (∀ k, s.arch.pend = .ks k →
      (∀ n, n < 17 → ∃ t, runsTo n { s with sched := List.replicate n .cycle ++ rest } t ∧ t.arch = s.arch) ∧
      ∃ t, runsTo 17 { s with sched := List.replicate 17 .cycle ++ rest } t ∧ t.arch = s.arch.complete)

/-! ### Liveness -/

/-- R271: with an operation in flight, in every state that meets R48 and under every schedule of defined turns, the
Engine's step is taken (or Reset aborts the operation) within one step more than the schedule has turns. That a schedule
which says no more lets the Engine go first is the model's form of fairness (log entry 5). -/
def Obligations.OperationInFlightEnds : Prop :=
  ∀ s : State, s.arch.Inv → s.arch.pend ≠ .none → (∀ turn ∈ s.sched, turnDefined turn = true) →
    ∃ n t, n ≤ s.sched.length + 1 ∧ runsTo n s t ∧ t.arch.pend = .none

/-- R109: in every state that meets R48 and under every schedule of defined turns POLL ends, and the value it leaves the
host with has BUSY = 0. POLL as an item of the host's program and the fair default are the model's (log entries 5 and
11). -/
def Obligations.PollEnds : Prop :=
  ∀ (s : State) (rest : List HostItem), s.arch.Inv → s.host = .poll :: rest →
    (∀ turn ∈ s.sched, turnDefined turn = true) →
    ∃ n t v vs, n ≤ s.sched.length + 2 ∧ runsTo n s t ∧ t.host = rest ∧ t.returned = v :: vs ∧
      v.getLsbD 0 = false

/-- R272: in every state that meets R48 and under every schedule of defined turns the run of every host program ends,
with the host's items issued and PEND = None, and the end state stays as it is. Host program and schedule as data are
the model's (log entries 4 to 6). -/
def Obligations.EveryHostProgramEnds : Prop :=
  ∀ s : State, s.arch.Inv → (∀ turn ∈ s.sched, turnDefined turn = true) →
    ∃ n t, n ≤ s.sched.length + 2 * s.host.length + 1 ∧ runsTo n s t ∧ t.sched = [] ∧ t.host = [] ∧
      t.arch.pend = .none ∧ step t = .next t

/-! ### The cipher -/

/-- R235, R236: the block transformation as the rules write it: IP, split, the rounds in the order of the keys (encrypt)
or against it (decrypt), each pair from the old one, then FP of the halves joined right-then-left. -/
def Obligations.BlockTransformationAsWritten : Prop :=
  ∀ (b : Block64) (rk : Schedule),
    (encryptBlock b rk =
      let lr :=
        rk.toList.foldl (fun lr k => (lr.2, lr.1 ^^^ ffun lr.2 k))
          ((iperm b).extractLsb' 32 32, (iperm b).extractLsb' 0 32)
      fperm (lr.2 ++ lr.1)) ∧
    decryptBlock b rk =
      let lr :=
        rk.toList.reverse.foldl (fun lr k => (lr.2, lr.1 ^^^ ffun lr.2 k))
          ((iperm b).extractLsb' 32 32, (iperm b).extractLsb' 0 32)
      fperm (lr.2 ++ lr.1)

/-- R237: decryption undoes encryption and encryption undoes decryption, for every block and every 16-tuple of keys. -/
def Obligations.BlockRoundTrip : Prop :=
  ∀ (b : Block64) (rk : Schedule),
    decryptBlock (encryptBlock b rk) rk = b ∧ encryptBlock (decryptBlock b rk) rk = b

/-- R243, R206: complementing both operands of the F-function leaves its result, and so complementing key and block
complements the result of ENCRYPT. -/
def Obligations.Complementation : Prop :=
  (∀ (r : HalfBlock32) (k : RoundKey48), ffun (r ^^^ 0xFFFFFFFF) (k ^^^ 0xFFFFFFFFFFFF) = ffun r k) ∧
  ∀ (b : Block64) (k : MasterKey64),
    encryptBlock (~~~b) (deriveRoundKeys (~~~k)) = ~~~(encryptBlock b (deriveRoundKeys k))

/-- R136: FP and IP undo each other. -/
def Obligations.InversePermutations : Prop :=
  ∀ x : Block64, fperm (iperm x) = x ∧ iperm (fperm x) = x

/-- R209: a round is invertible under the same key. -/
def Obligations.RoundInvertible : Prop :=
  ∀ (l r l' r' : HalfBlock32) (k : RoundKey48), (l', r') = roundPair l r k →
    l = r' ^^^ ffun l' k ∧ r = l'

/-- R166: keys that differ only in parity bits have the same schedule. -/
def Obligations.ParityBitsIgnored : Prop :=
  ∀ k m : MasterKey64, m &&& 0xFEFEFEFEFEFEFEFE = 0 → deriveRoundKeys k = deriveRoundKeys (k ^^^ m)

/-- R160, R161, R163, R164, R165, R167: the round key of round `i + 1` is PC-2 of the halves of PC-1, each rotated left
by the cumulative shift after that round; and after round 16 the halves are back where they started. -/
def Obligations.KeyScheduleByCumulativeRotation : Prop :=
  ∀ k : MasterKey64,
    (∀ i : Fin 16,
      (deriveRoundKeys k)[i] =
        pc2perm
          (((pc1perm k).extractLsb' 28 28).rotateLeft
              (#v[1, 2, 4, 6, 8, 10, 12, 14, 15, 17, 19, 21, 23, 25, 27, 28] : Vector Nat 16)[i] ++
            ((pc1perm k).extractLsb' 0 28).rotateLeft
              (#v[1, 2, 4, 6, 8, 10, 12, 14, 15, 17, 19, 21, 23, 25, 27, 28] : Vector Nat 16)[i])) ∧
    halvesAfter k 16 = halvesAfter k 0

/-- R168: the high half of a round key depends only on C, the low half only on D, and neither on the eight omitted
positions 9, 18, 22, 25, 35, 38, 43 and 54 of C then D. -/
def Obligations.RoundKeyHalvesSeparate : Prop :=
  (∀ c c' d d' : Half28, (c = c' → (roundKeyOf (c, d)).extractLsb' 24 24 = (roundKeyOf (c', d')).extractLsb' 24 24) ∧
    (d = d' → (roundKeyOf (c, d)).extractLsb' 0 24 = (roundKeyOf (c', d')).extractLsb' 0 24)) ∧
  (∀ cd cd' : Key56, (∀ p, 1 ≤ p → p ≤ 56 → p ∉ [9, 18, 22, 25, 35, 38, 43, 54] → fbit cd p = fbit cd' p) →
    pc2perm cd = pc2perm cd')

/-- R172: the four weak keys and their round keys; all sixteen round keys are equal exactly when C_0 and D_0 are each
all-zero or all-one; and when they are equal, decryption is encryption. -/
def Obligations.WeakKeysCharacterised : Prop :=
  deriveRoundKeys 0x0101010101010101 = Vector.replicate 16 0x000000000000 ∧
  deriveRoundKeys 0xFEFEFEFEFEFEFEFE = Vector.replicate 16 0xFFFFFFFFFFFF ∧
  deriveRoundKeys 0x1F1F1F1F0E0E0E0E = Vector.replicate 16 0x000000FFFFFF ∧
  deriveRoundKeys 0xE0E0E0E0F1F1F1F1 = Vector.replicate 16 0xFFFFFF000000 ∧
  (∀ (b : Block64) (rk : Schedule), (∀ r r' : Fin 16, rk[r] = rk[r']) → decryptBlock b rk = encryptBlock b rk) ∧
  ∀ k : MasterKey64,
    (∀ r r' : Fin 16, (deriveRoundKeys k)[r] = (deriveRoundKeys k)[r']) ↔
      ((halvesAfter k 0).1 = 0 ∨ (halvesAfter k 0).1 = 0xFFFFFFF) ∧
      ((halvesAfter k 0).2 = 0 ∨ (halvesAfter k 0).2 = 0xFFFFFFF)

/-- R235, R236: the known-answer test of the source, in both directions. -/
def Obligations.KnownAnswer : Prop :=
  encryptBlock 0x0123456789ABCDEF (deriveRoundKeys 0x133457799BBCDFF1) = 0x85E813540F0AB405 ∧
  decryptBlock 0x85E813540F0AB405 (deriveRoundKeys 0x133457799BBCDFF1) = 0x0123456789ABCDEF

/-- R204: every row of every S-box contains each value 0..15 exactly once. -/
def Obligations.SboxRowsArePermutations : Prop :=
  ∀ (i : Fin 8) (row : Fin 4) (v : Nibble),
    (∃ col : Fin 16, sboxTables[i][row][col] = v) ∧
    ∀ col col' : Fin 16, sboxTables[i][row][col] = v → sboxTables[i][row][col'] = v → col = col'

/-- R131, R302: an instance is admitted exactly when every entry of its six tables lies in 1..Win, the hardware's tables
are, and nothing faults at run time. The rules ask that a malformed set is refused; that a well-formed set which differs
from the printed tables is admitted is the model's (log entry 21). -/
def Obligations.OnlyWellFormedTablesAdmitted : Prop :=
  powerOn hardwareTables = .next State.reset ∧ (∀ (s : State) (r : Fault), step s ≠ .fault r) ∧
  ∀ t : TableSet,
    (powerOn t = .next State.reset ∨ powerOn t = .fault .malformedTable) ∧
    (powerOn t = .next State.reset ↔
      (∀ p ∈ t.ip.toList, 1 ≤ p ∧ p ≤ 64) ∧ (∀ p ∈ t.fp.toList, 1 ≤ p ∧ p ≤ 64) ∧
      (∀ p ∈ t.e.toList, 1 ≤ p ∧ p ≤ 32) ∧ (∀ p ∈ t.p.toList, 1 ≤ p ∧ p ≤ 32) ∧
      (∀ p ∈ t.pc1.toList, 1 ≤ p ∧ p ≤ 64) ∧ (∀ p ∈ t.pc2.toList, 1 ≤ p ∧ p ≤ 56))

/-- R130: output position `p` of Permute equals the input position the table names at `p`. -/
def Obligations.PermuteCopiesNamedPosition : Prop :=
  ∀ (win wout : Nat) (t : Vector Nat wout) (x : BitVec win) (p : Fin wout),
    fbit (permute t x) (p.val + 1) = fbit x t[p]

/-- R133: the multiplexer ignores input bits above Win - 1 and zero-extends its result above Wout - 1. -/
def Obligations.MultiplexerIgnoresHighBits : Prop :=
  (∀ (x x' : Block64), x.extractLsb' 0 32 = x'.extractLsb' 0 32 →
    permux .e x = permux .e x' ∧ permux .p x = permux .p x') ∧
  (∀ (x x' : Block64), x.extractLsb' 0 56 = x'.extractLsb' 0 56 → permux .pc2 x = permux .pc2 x') ∧
  (∀ x : Block64, (permux .e x).extractLsb' 48 16 = 0 ∧ (permux .p x).extractLsb' 32 32 = 0 ∧
    (permux .pc1 x).extractLsb' 56 8 = 0 ∧ (permux .pc2 x).extractLsb' 48 16 = 0)

/-- R73: a byte stream maps to a register value big-endian, byte `j` holding FIPS positions 8j+1 to 8j+8, and back. -/
def Obligations.ByteStreamIsBigEndian : Prop :=
  (∀ (b : Vector (BitVec 8) 8) (j : Fin 8) (i : Fin 8),
    fbit (blockOfBytes b) (8 * j.val + (i.val + 1)) = fbit b[j] (i.val + 1)) ∧
  (∀ b : Vector (BitVec 8) 8, bytesOfBlock (blockOfBytes b) = b) ∧
  (∀ v : Block64, blockOfBytes (bytesOfBlock v) = v)

/-! ### Micro-operations -/

/-- R133 to R140: each PERM micro-operation drives Y with its permutation of X, zero-extended, and changes nothing else.
That X and Y are latches of the state is the model's (log entry 7). -/
def Obligations.PermMicroOpsDriveY : Prop :=
  ∀ s : State,
    exec .permIp s = .next { s with dp := { s.dp with y := permute tableIP s.dp.x } } ∧
    exec .permFp s = .next { s with dp := { s.dp with y := permute tableFP s.dp.x } } ∧
    exec .permE s =
      .next { s with dp := { s.dp with y := (permute tableE (s.dp.x.setWidth 32)).setWidth 64 } } ∧
    exec .permP s =
      .next { s with dp := { s.dp with y := (permute tableP (s.dp.x.setWidth 32)).setWidth 64 } } ∧
    exec .permPc1 s = .next { s with dp := { s.dp with y := (permute tablePC1 s.dp.x).setWidth 64 } } ∧
    exec .permPc2 s =
      .next { s with dp := { s.dp with y := (permute tablePC2 (s.dp.x.setWidth 56)).setWidth 64 } }

/-- R162: ROTL28.n moves the top `n` bits of its operand to the bottom, and changes nothing but the unit's result. The
latches are the model's (log entry 7). -/
def Obligations.RotationMicroOps : Prop :=
  ∀ s : State,
    exec .rotl28By1 s =
      .next { s with dp := { s.dp with hRot := s.dp.h.extractLsb' 0 27 ++ s.dp.h.extractLsb' 27 1 } } ∧
    exec .rotl28By2 s =
      .next { s with dp := { s.dp with hRot := s.dp.h.extractLsb' 0 26 ++ s.dp.h.extractLsb' 26 2 } }

/-- R106, R192 to R194, R203: SBOX.i puts cell (row, col) of S-box i in output lane i, where row and col are read from
group `g_i` of the mixed value, and changes no other bit of the output and nothing else. The latches are the model's
(log entries 7 and 16). -/
def Obligations.SboxMicroOpsDriveTheirLane : Prop :=
  ∀ (s : State) (lane : Fin 8) (row : Fin 4) (col : Fin 16),
    row.val = 2 * (s.dp.mix.getLsbD (47 - 6 * lane.val)).toNat + (s.dp.mix.getLsbD (42 - 6 * lane.val)).toNat →
    col.val = (s.dp.mix.extractLsb' (43 - 6 * lane.val) 4).toNat →
    ∃ o : HalfBlock32,
      exec (sboxInstr lane) s = .next { s with dp := { s.dp with sOut := o } } ∧
      o.extractLsb' (28 - 4 * lane.val) 4 = sboxTables[lane][row][col] ∧
      ∀ j, (j < 28 - 4 * lane.val ∨ 32 - 4 * lane.val ≤ j) → o.getLsbD j = s.dp.sOut.getLsbD j

/-- R191, R206, R207, R208: XOR48, FFUNC, XOR32 and ROUND, each from its own operands; ROUND reads the old R twice. The
latches are the model's (log entries 7 and 19). -/
def Obligations.FeistelMicroOps : Prop :=
  ∀ s : State,
    exec .xor48 s = .next { s with dp := { s.dp with mix := s.dp.e ^^^ s.dp.k } } ∧
    exec .ffunc s =
      .next { s with dp := { s.dp with f := pperm (slayer (expand s.dp.r ^^^ s.dp.k)) } } ∧
    exec .xor32 s = .next { s with dp := { s.dp with lf := s.dp.l ^^^ s.dp.f } } ∧
    exec .round s =
      .next
        { s with
          dp :=
            { s.dp with
              lNext := s.dp.r, rNext := s.dp.l ^^^ pperm (slayer (expand s.dp.r ^^^ s.dp.k)) } }

/-- R141, R105: no micro-operation writes architectural state or a STATUS field, or anything but the datapath (log entry
7). -/
def Obligations.MicroOpsWriteOnlyTheDatapath : Prop :=
  ∀ (u : Select8) (i : Instr) (s : State), decode (.uop8 u) = .ok i →
    ∃ d, exec i s = .next { s with dp := d }

/-- R190, R203, R205, R206: the key mixing and the eight S-box lanes, in order, make the S-layer's output, and its round
permutation is what FFUNC gives from the unexpanded half. That the S-box lanes read the mixed value's latch is the
model's (log entries 7 and 16), and so is that XOR48's operand is a latch which nothing ties to the expansion: that it
holds the expansion of R is a premise (log entry 19). -/
def Obligations.LanesMakeTheFFunction : Prop :=
  ∀ s : State, s.dp.e = expand s.dp.r →
    ∃ t u, execAll [.xor48, .sbox1, .sbox2, .sbox3, .sbox4, .sbox5, .sbox6, .sbox7, .sbox8] s = .next t ∧
      t.dp.sOut = slayer (s.dp.e ^^^ s.dp.k) ∧ exec .ffunc s = .next u ∧ u.dp.f = pperm t.dp.sOut

/-! ### Encodings and the step -/

/-- R100, R105, R110: decoding the encoding of a well-formed instruction gives it back, with every operand. -/
def Obligations.DecodeOfEncode : Prop :=
  ∀ i : Instr, i.wf = true → decode (encode i) = .ok i

/-- R100, R105: each word has one meaning: what decodes to an instruction is that instruction's encoding, and the
instruction is well formed. -/
def Obligations.EncodeOfDecode : Prop :=
  ∀ (c : Encoded) (i : Instr), decode c = .ok i → encode i = c ∧ i.wf = true

/-- R105, R111: the select words the decoder refuses are those the table leaves out, each under its own name, and a
command word is legal exactly when it is 0x1, 0x2 or 0x3. -/
def Obligations.ReservedAndIllegalWords : Prop :=
  (∀ unit sel : BitVec 4,
    (decode (.uop8 (unit ++ sel)) = .error (.reservedSelect (unit ++ sel)) ↔
      (unit = 0 ∧ 6 ≤ sel.toNat) ∨ (unit = 1 ∧ (sel.toNat = 0 ∨ 3 ≤ sel.toNat)) ∨
      (unit = 2 ∧ (sel.toNat = 0 ∨ 9 ≤ sel.toNat)) ∨ (3 ≤ unit.toNat ∧ unit.toNat ≤ 6 ∧ sel ≠ 0) ∨
      7 ≤ unit.toNat)) ∧
  (∀ v : Block64, (decodeCmd v = .keysched ↔ v = 0x1) ∧ (decodeCmd v = .encrypt ↔ v = 0x2) ∧
    (decodeCmd v = .decrypt ↔ v = 0x3) ∧ (decodeCmd v = .illegal ↔ v ≠ 0x1 ∧ v ≠ 0x2 ∧ v ≠ 0x3))

/-- Some words of each family, written out from R100, R102 and R105, decode to the instructions they stand for. -/
def Obligations.SampleWordsDecode : Prop :=
  decode (.host68 0x10000000000000000) = .ok (.rdStatus 0) ∧
  decode (.host68 0xA133457799BBCDFF1) = .ok (.wrKey 0x133457799BBCDFF1) ∧
  decode (.host68 0x80000000000000004) = .ok (.wrCmd 4) ∧
  decode (.host68 0x80000000000000001) = .ok .keysched ∧
  decode (.host68 0x80000000000000003) = .ok .decrypt ∧
  decode (.uop8 0x05) = .ok .permPc2 ∧ decode (.uop8 0x12) = .ok .rotl28By2 ∧
  decode (.uop8 0x28) = .ok .sbox8 ∧ decode (.uop8 0x40) = .ok .xor32 ∧ decode (.uop8 0x60) = .ok .round

/-- R273, R105: a step is never a fault, and the one thing it refuses is a reserved micro-operation select word. -/
def Obligations.OnlyReservedSelectsAreRefused : Prop :=
  ∀ s : State, (∃ t, step s = .next t) ∨
    ∃ u rest, s.sched = .uop u :: rest ∧ decode (.uop8 u) = .error (.reservedSelect u) ∧
      step s = .refused (.reservedSelect u)

/-- A step runs the decoded instruction (R78, R100, R105). A host turn, given by the schedule or, with the schedule
spent and PEND = None, by default, runs the host's next transaction in the state with that item taken; a micro-operation
turn runs the instruction its select word names (log entries 4 and 5). And so `withFetchWord` puts an instruction where
the next step runs it. -/
def Obligations.StepRunsTheDecodedInstruction : Prop :=
  (∀ (s : State) (w : Txn68) (i : Instr) (host : List HostItem) (sched : List Turn),
    s.host = .txn w :: host → s.sched = .host :: sched → decode (.host68 w) = .ok i →
    step s = exec i { s with host := host, sched := sched }) ∧
  (∀ (s : State) (w : Txn68) (i : Instr) (host : List HostItem),
    s.host = .txn w :: host → s.sched = [] → s.arch.pend = .none → decode (.host68 w) = .ok i →
    step s = exec i { s with host := host }) ∧
  (∀ (s : State) (u : Select8) (i : Instr) (sched : List Turn),
    s.sched = .uop u :: sched → decode (.uop8 u) = .ok i → step s = exec i { s with sched := sched }) ∧
  (∀ (s : State) (w : Nat) (i : Instr), decodeTableWord 72 w = some i → step (s.withFetchWord 72 w) = exec i s) ∧
  (∀ (s : State) (u : Nat) (i : Instr), decodeTableWord 8 u = some i → step (s.withFetchWord 8 u) = exec i s)
end

