-- ==== Sys2Proof/Laws/Cipher.lean ====
section
/-! SUPPORT. The permutation mechanism bit by bit, and what follows for any table. -/

namespace Sys2Proof.Machine

/-- Slice bit `j` of a permutation copies the input position its table names (R130). -/
theorem getLsbD_permute {win wout : Nat} (t : Vector Nat wout) (x : BitVec win) (j : Nat) (h : j < wout) :
    (permute t x).getLsbD j = fbit x (t[wout - 1 - j]'(by omega)) := by
  simp [permute, h]

/-- Two permutations of one input agree on a slice bit when their tables name the same input position there. -/
theorem permute_congr {win wout : Nat} {t : Vector Nat wout} {x y : BitVec win}
    (h : ∀ p ∈ t.toList, fbit x p = fbit y p) : permute t x = permute t y := by
  refine BitVec.eq_of_getLsbD_eq fun j hj => ?_
  rw [getLsbD_permute t x j hj, getLsbD_permute t y j hj]
  exact h _ (by simp)

/-- A permutation distributes over XOR (R130 is linear). -/
theorem permute_xor {win wout : Nat} (t : Vector Nat wout) (x y : BitVec win) :
    permute t (x ^^^ y) = permute t x ^^^ permute t y := by
  refine BitVec.eq_of_getLsbD_eq fun j hj => ?_
  rw [BitVec.getLsbD_xor, getLsbD_permute _ _ j hj, getLsbD_permute _ _ j hj, getLsbD_permute _ _ j hj]
  simp [fbit]

/-- A permutation of a complement is the complement, for a table that is well formed (R131). -/
theorem permute_not {win wout : Nat} (t : Vector Nat wout) (x : BitVec win) (ht : tableWf win t = true) :
    permute t (~~~x) = ~~~(permute t x) := by
  refine BitVec.eq_of_getLsbD_eq fun j hj => ?_
  have hm : t[wout - 1 - j]'(by omega) ∈ t.toList := by simp
  have hw := List.all_eq_true.mp ht _ hm
  simp only [decide_eq_true_eq] at hw
  have hlt : win - t[wout - 1 - j]'(by omega) < win := by omega
  rw [BitVec.getLsbD_not, getLsbD_permute _ _ j hj, getLsbD_permute _ _ j hj]
  simp [fbit, hj, hlt, -BitVec.getLsbD_eq_getElem]

/-- Every table of the hardware is well formed (R131). -/
theorem hardwareTables_wf : hardwareTables.wf = true := by decide +kernel

end Sys2Proof.Machine
end

