-- ==== Sys2Proof/Laws/State.lean ====
section
/-! SUPPORT. What each shared operation leaves in each field of State, one lemma a field, so that no proof unfolds a
record update. -/

namespace Sys2Proof.Machine

@[simp] theorem hostRead_arch (idx : RegIdx) (s : State) : (hostRead idx s).arch = s.arch := rfl
@[simp] theorem hostRead_work (idx : RegIdx) (s : State) : (hostRead idx s).work = s.work := rfl
@[simp] theorem hostRead_dp (idx : RegIdx) (s : State) : (hostRead idx s).dp = s.dp := rfl
@[simp] theorem hostRead_host (idx : RegIdx) (s : State) : (hostRead idx s).host = s.host := rfl
@[simp] theorem hostRead_sched (idx : RegIdx) (s : State) : (hostRead idx s).sched = s.sched := rfl
@[simp] theorem hostRead_returned (idx : RegIdx) (s : State) : (hostRead idx s).returned = s.arch.read idx :: s.returned := rfl
@[simp] theorem hostRead_resets (idx : RegIdx) (s : State) : (hostRead idx s).resets = s.resets := rfl

@[simp] theorem cmdError_arch (code : Nibble) (s : State) : (cmdError code s).arch = { s.arch with status := s.arch.status.rejected code } := rfl
@[simp] theorem cmdError_work (code : Nibble) (s : State) : (cmdError code s).work = s.work := rfl
@[simp] theorem cmdError_dp (code : Nibble) (s : State) : (cmdError code s).dp = s.dp := rfl
@[simp] theorem cmdError_host (code : Nibble) (s : State) : (cmdError code s).host = s.host := rfl
@[simp] theorem cmdError_sched (code : Nibble) (s : State) : (cmdError code s).sched = s.sched := rfl
@[simp] theorem cmdError_returned (code : Nibble) (s : State) : (cmdError code s).returned = s.returned := rfl
@[simp] theorem cmdError_resets (code : Nibble) (s : State) : (cmdError code s).resets = s.resets := rfl

@[simp] theorem acceptCmd_arch (s : State) : (acceptCmd s).arch = { s.arch with status := s.arch.status.accepted } := rfl
@[simp] theorem acceptCmd_work (s : State) : (acceptCmd s).work = s.work := rfl
@[simp] theorem acceptCmd_dp (s : State) : (acceptCmd s).dp = s.dp := rfl
@[simp] theorem acceptCmd_host (s : State) : (acceptCmd s).host = s.host := rfl
@[simp] theorem acceptCmd_sched (s : State) : (acceptCmd s).sched = s.sched := rfl
@[simp] theorem acceptCmd_returned (s : State) : (acceptCmd s).returned = s.returned := rfl
@[simp] theorem acceptCmd_resets (s : State) : (acceptCmd s).resets = s.resets := rfl

@[simp] theorem dropCmd_arch (s : State) : (dropCmd s).arch = { s.arch with status := s.arch.status.overrun } := rfl
@[simp] theorem dropCmd_work (s : State) : (dropCmd s).work = s.work := rfl
@[simp] theorem dropCmd_dp (s : State) : (dropCmd s).dp = s.dp := rfl
@[simp] theorem dropCmd_host (s : State) : (dropCmd s).host = s.host := rfl
@[simp] theorem dropCmd_sched (s : State) : (dropCmd s).sched = s.sched := rfl
@[simp] theorem dropCmd_returned (s : State) : (dropCmd s).returned = s.returned := rfl
@[simp] theorem dropCmd_resets (s : State) : (dropCmd s).resets = s.resets := rfl

@[simp] theorem startOp_arch (p : Pend) (s : State) : (startOp p s).arch = { s.arch with status := s.arch.status.started, pend := p } := rfl
@[simp] theorem startOp_work (p : Pend) (s : State) : (startOp p s).work = { s.work with rnd := 0 } := rfl
@[simp] theorem startOp_dp (p : Pend) (s : State) : (startOp p s).dp = s.dp := rfl
@[simp] theorem startOp_host (p : Pend) (s : State) : (startOp p s).host = s.host := rfl
@[simp] theorem startOp_sched (p : Pend) (s : State) : (startOp p s).sched = s.sched := rfl
@[simp] theorem startOp_returned (p : Pend) (s : State) : (startOp p s).returned = s.returned := rfl
@[simp] theorem startOp_resets (p : Pend) (s : State) : (startOp p s).resets = s.resets := rfl

@[simp] theorem complete_arch (s : State) : (complete s).arch = s.arch.complete := rfl
@[simp] theorem complete_work (s : State) : (complete s).work = s.work := rfl
@[simp] theorem complete_dp (s : State) : (complete s).dp = s.dp := rfl
@[simp] theorem complete_host (s : State) : (complete s).host = s.host := rfl
@[simp] theorem complete_sched (s : State) : (complete s).sched = s.sched := rfl
@[simp] theorem complete_returned (s : State) : (complete s).returned = s.returned := rfl
@[simp] theorem complete_resets (s : State) : (complete s).resets = s.resets := rfl

@[simp] theorem resetEvent_arch (s : State) : (resetEvent s).arch = Arch.reset (Config.rkAfterReset s.resets s.arch.rk) := rfl
@[simp] theorem resetEvent_dp (s : State) : (resetEvent s).dp = s.dp := rfl
@[simp] theorem resetEvent_host (s : State) : (resetEvent s).host = s.host := rfl
@[simp] theorem resetEvent_sched (s : State) : (resetEvent s).sched = s.sched := rfl
@[simp] theorem resetEvent_returned (s : State) : (resetEvent s).returned = s.returned := rfl
@[simp] theorem resetEvent_resets (s : State) : (resetEvent s).resets = s.resets + 1 := rfl

@[simp] theorem onDatapath_arch (f : Datapath → Datapath) (s : State) : (s.onDatapath f).arch = s.arch := rfl
@[simp] theorem onDatapath_work (f : Datapath → Datapath) (s : State) : (s.onDatapath f).work = s.work := rfl
@[simp] theorem onDatapath_dp (f : Datapath → Datapath) (s : State) : (s.onDatapath f).dp = f s.dp := rfl
@[simp] theorem onDatapath_host (f : Datapath → Datapath) (s : State) : (s.onDatapath f).host = s.host := rfl
@[simp] theorem onDatapath_sched (f : Datapath → Datapath) (s : State) : (s.onDatapath f).sched = s.sched := rfl
@[simp] theorem onDatapath_returned (f : Datapath → Datapath) (s : State) : (s.onDatapath f).returned = s.returned := rfl
@[simp] theorem onDatapath_resets (f : Datapath → Datapath) (s : State) : (s.onDatapath f).resets = s.resets := rfl

/-! ### STATUS updates -/

@[simp] theorem Status.overrun_busy (st : Status) : (st.overrun).busy = st.busy := rfl
@[simp] theorem Status.overrun_kv (st : Status) : (st.overrun).kv = st.kv := rfl
@[simp] theorem Status.overrun_done (st : Status) : (st.overrun).done = st.done := rfl
@[simp] theorem Status.overrun_err (st : Status) : (st.overrun).err = st.err := rfl
@[simp] theorem Status.overrun_ecode (st : Status) : (st.overrun).ecode = st.ecode := rfl
@[simp] theorem Status.overrun_ovr (st : Status) : (st.overrun).ovr = true := rfl

@[simp] theorem Status.accepted_busy (st : Status) : (st.accepted).busy = st.busy := rfl
@[simp] theorem Status.accepted_kv (st : Status) : (st.accepted).kv = st.kv := rfl
@[simp] theorem Status.accepted_done (st : Status) : (st.accepted).done = false := rfl
@[simp] theorem Status.accepted_err (st : Status) : (st.accepted).err = false := rfl
@[simp] theorem Status.accepted_ecode (st : Status) : (st.accepted).ecode = 0 := rfl
@[simp] theorem Status.accepted_ovr (st : Status) : (st.accepted).ovr = false := rfl

@[simp] theorem Status.started_busy (st : Status) : (st.started).busy = true := rfl
@[simp] theorem Status.started_kv (st : Status) : (st.started).kv = st.kv := rfl
@[simp] theorem Status.started_done (st : Status) : (st.started).done = st.done := rfl
@[simp] theorem Status.started_err (st : Status) : (st.started).err = st.err := rfl
@[simp] theorem Status.started_ecode (st : Status) : (st.started).ecode = st.ecode := rfl
@[simp] theorem Status.started_ovr (st : Status) : (st.started).ovr = st.ovr := rfl

@[simp] theorem Status.rejected_busy (code : Nibble) (st : Status) : (st.rejected code).busy = st.busy := rfl
@[simp] theorem Status.rejected_kv (code : Nibble) (st : Status) : (st.rejected code).kv = st.kv := rfl
@[simp] theorem Status.rejected_done (code : Nibble) (st : Status) : (st.rejected code).done = st.done := rfl
@[simp] theorem Status.rejected_err (code : Nibble) (st : Status) : (st.rejected code).err = true := rfl
@[simp] theorem Status.rejected_ecode (code : Nibble) (st : Status) : (st.rejected code).ecode = code := rfl
@[simp] theorem Status.rejected_ovr (code : Nibble) (st : Status) : (st.rejected code).ovr = st.ovr := rfl

@[simp] theorem Status.blockDone_busy (st : Status) : (st.blockDone).busy = false := rfl
@[simp] theorem Status.blockDone_kv (st : Status) : (st.blockDone).kv = st.kv := rfl
@[simp] theorem Status.blockDone_done (st : Status) : (st.blockDone).done = true := rfl
@[simp] theorem Status.blockDone_err (st : Status) : (st.blockDone).err = st.err := rfl
@[simp] theorem Status.blockDone_ecode (st : Status) : (st.blockDone).ecode = st.ecode := rfl
@[simp] theorem Status.blockDone_ovr (st : Status) : (st.blockDone).ovr = st.ovr := rfl

@[simp] theorem Status.keyDone_busy (st : Status) : (st.keyDone).busy = false := rfl
@[simp] theorem Status.keyDone_kv (st : Status) : (st.keyDone).kv = true := rfl
@[simp] theorem Status.keyDone_done (st : Status) : (st.keyDone).done = true := rfl
@[simp] theorem Status.keyDone_err (st : Status) : (st.keyDone).err = st.err := rfl
@[simp] theorem Status.keyDone_ecode (st : Status) : (st.keyDone).ecode = st.ecode := rfl
@[simp] theorem Status.keyDone_ovr (st : Status) : (st.keyDone).ovr = st.ovr := rfl

@[simp] theorem Arch.finishKey_key (sc : Schedule) (a : Arch) : (a.finishKey sc).key = a.key := rfl
@[simp] theorem Arch.finishKey_din (sc : Schedule) (a : Arch) : (a.finishKey sc).din = a.din := rfl
@[simp] theorem Arch.finishKey_dout (sc : Schedule) (a : Arch) : (a.finishKey sc).dout = a.dout := rfl
@[simp] theorem Arch.finishKey_status (sc : Schedule) (a : Arch) : (a.finishKey sc).status = a.status.keyDone := rfl
@[simp] theorem Arch.finishKey_rk (sc : Schedule) (a : Arch) : (a.finishKey sc).rk = sc := rfl
@[simp] theorem Arch.finishKey_pend (sc : Schedule) (a : Arch) : (a.finishKey sc).pend = .none := rfl

@[simp] theorem Arch.finishBlock_key (v : Block64) (a : Arch) : (a.finishBlock v).key = a.key := rfl
@[simp] theorem Arch.finishBlock_din (v : Block64) (a : Arch) : (a.finishBlock v).din = a.din := rfl
@[simp] theorem Arch.finishBlock_dout (v : Block64) (a : Arch) : (a.finishBlock v).dout = v := rfl
@[simp] theorem Arch.finishBlock_status (v : Block64) (a : Arch) : (a.finishBlock v).status = a.status.blockDone := rfl
@[simp] theorem Arch.finishBlock_rk (v : Block64) (a : Arch) : (a.finishBlock v).rk = a.rk := rfl
@[simp] theorem Arch.finishBlock_pend (v : Block64) (a : Arch) : (a.finishBlock v).pend = .none := rfl

@[simp] theorem Arch.reset_key (rk : Schedule) : (Arch.reset rk).key = 0 := rfl
@[simp] theorem Arch.reset_din (rk : Schedule) : (Arch.reset rk).din = 0 := rfl
@[simp] theorem Arch.reset_dout (rk : Schedule) : (Arch.reset rk).dout = 0 := rfl
@[simp] theorem Arch.reset_status (rk : Schedule) : (Arch.reset rk).status = Status.reset := rfl
@[simp] theorem Arch.reset_rk (rk : Schedule) : (Arch.reset rk).rk = rk := rfl
@[simp] theorem Arch.reset_pend (rk : Schedule) : (Arch.reset rk).pend = .none := rfl

end Sys2Proof.Machine
end

