-- ==== Sys2Proof/Laws/Ops.lean ====
section
/-! SUPPORT. One lemma per shared operation: everything it can do. -/

namespace Sys2Proof.Machine

theorem complete_of_none {a : Arch} (h : a.pend = .none) : a.complete = a := by simp [Arch.complete, h]

theorem complete_of_ks {a : Arch} {k : MasterKey64} (h : a.pend = .ks k) :
    a.complete = a.finishKey (deriveRoundKeys k) := by simp [Arch.complete, h]

theorem complete_of_blk {a : Arch} {dir : Dir} {b : Block64} (h : a.pend = .blk dir b) :
    a.complete = a.finishBlock (cipherBlock dir a.rk b) := by simp [Arch.complete, h]

/-- A CMD write drops, rejects (with one of two codes) or starts one operation (R263, R264, R307). -/
theorem cmdWrite_cases (v : Block64) (s : State) :
    (s.arch.status.busy = true ∧ cmdWrite v s = dropCmd s) ∨
    (s.arch.status.busy = false ∧ decodeCmd v = .illegal ∧
      cmdWrite v s = cmdError Config.ecodeIllegalCmd (acceptCmd s)) ∨
    (s.arch.status.busy = false ∧ s.arch.status.kv = false ∧
      cmdWrite v s = cmdError Config.ecodeNoKey (acceptCmd s)) ∨
    (s.arch.status.busy = false ∧ cmdWrite v s = startOp (.ks s.arch.key) (acceptCmd s)) ∨
    (s.arch.status.busy = false ∧ s.arch.status.kv = true ∧
      ∃ dir, cmdWrite v s = startOp (.blk dir s.arch.din) (acceptCmd s)) := by
  rcases hb : s.arch.status.busy with _ | _
  · rcases hc : decodeCmd v with _ | _ | _ | _
    · simp [cmdWrite, hb, hc, dispatchCmd, startKeysched, acceptCmd]
    all_goals
      rcases hk : s.arch.status.kv with _ | _ <;>
        simp [cmdWrite, hb, hc, hk, dispatchCmd, startBlock, acceptCmd, Status.accepted]
    · exact .inr ⟨.enc, rfl⟩
    · exact .inr ⟨.dec, rfl⟩
  · simp [cmdWrite, hb]

/-- A host write changes the architectural state and, of the working registers, at most RND. -/
theorem hostWrite_frame (idx : RegIdx) (v : Block64) (s : State) :
    (hostWrite idx v s).dp = s.dp ∧ (hostWrite idx v s).host = s.host ∧ (hostWrite idx v s).sched = s.sched ∧
    (hostWrite idx v s).returned = s.returned ∧ (hostWrite idx v s).resets = s.resets ∧
    ∃ rnd, (hostWrite idx v s).work = { s.work with rnd := rnd } := by
  cases idx
  case cmd =>
    obtain ⟨-, h⟩ | ⟨-, -, h⟩ | ⟨-, -, h⟩ | ⟨-, h⟩ | ⟨-, -, dir, h⟩ := cmdWrite_cases v s <;>
      simp [hostWrite, h, dropCmd, cmdError, acceptCmd, startOp] <;>
      exact ⟨_, rfl⟩
  all_goals exact ⟨rfl, rfl, rfl, rfl, rfl, s.work.rnd, rfl⟩

/-- The transaction a host record makes, in the state it leaves (R100, R260, R261). -/
theorem exec_decodeHost (w : Txn68) (s : State) :
    exec (decodeHost w) s =
      .next (if txnIsWrite w = true then hostWrite (RegIdx.ofIndex (txnIndex w)) (txnData w) s
        else hostRead (RegIdx.ofIndex (txnIndex w)) s) := by
  unfold decodeHost
  split
  · rcases h : RegIdx.ofIndex (txnIndex w) <;> try rfl
    simp only [writeInstr, cmdInstr]
    have hc : decodeCmd (txnData w) = decodeCmd (txnData w) := rfl
    conv at hc => rhs; unfold decodeCmd
    split at hc
    · next e => rw [hc, e]; rfl
    split at hc
    · next e => rw [hc, e]; rfl
    split at hc
    · next e => rw [hc, e]; rfl
    · rw [hc]; rfl
  · rcases h : RegIdx.ofIndex (txnIndex w) <;> rfl

/-- A micro-operation changes the datapath alone (R141). -/
theorem exec_decodeUop {u : Select8} {i : Instr} (h : decodeUop u = .ok i) (s : State) :
    ∃ f, exec i s = .next (s.onDatapath f) := by
  unfold decodeUop at h
  split at h <;> cases h <;> exact ⟨_, rfl⟩

end Sys2Proof.Machine
end

