-- ==== Sys2Proof/Laws/PerInstr.lean ====
section
/-! SUPPORT. For every instruction: the encoder puts it in its row of spec/opcode_table.json. -/

namespace Sys2Proof.Laws.TableRow

/-- A row of the opcode table: its length in bits, its mask and its match. -/
structure Row where
  nbits : Nat
  mask : Nat
  value : Nat
  deriving DecidableEq, Repr

/-- The row of spec/opcode_table.json an instruction stands for, its numbers as the table writes them. -/
def row : Instr → Row
  | .rdCmd _ => ⟨68, 0xF0000000000000000, 0x00000000000000000⟩
  | .rdStatus _ => ⟨68, 0xF0000000000000000, 0x10000000000000000⟩
  | .rdKey _ => ⟨68, 0xF0000000000000000, 0x20000000000000000⟩
  | .rdDin _ => ⟨68, 0xF0000000000000000, 0x30000000000000000⟩
  | .rdDout _ => ⟨68, 0xF0000000000000000, 0x40000000000000000⟩
  | .rdR5 _ => ⟨68, 0xF0000000000000000, 0x50000000000000000⟩
  | .rdR6 _ => ⟨68, 0xF0000000000000000, 0x60000000000000000⟩
  | .rdR7 _ => ⟨68, 0xF0000000000000000, 0x70000000000000000⟩
  | .wrCmd _ => ⟨68, 0xF0000000000000000, 0x80000000000000000⟩
  | .wrStatus _ => ⟨68, 0xF0000000000000000, 0x90000000000000000⟩
  | .wrKey _ => ⟨68, 0xF0000000000000000, 0xA0000000000000000⟩
  | .wrDin _ => ⟨68, 0xF0000000000000000, 0xB0000000000000000⟩
  | .wrDout _ => ⟨68, 0xF0000000000000000, 0xC0000000000000000⟩
  | .wrR5 _ => ⟨68, 0xF0000000000000000, 0xD0000000000000000⟩
  | .wrR6 _ => ⟨68, 0xF0000000000000000, 0xE0000000000000000⟩
  | .wrR7 _ => ⟨68, 0xF0000000000000000, 0xF0000000000000000⟩
  | .keysched => ⟨68, 0xFFFFFFFFFFFFFFFFF, 0x80000000000000001⟩
  | .encrypt => ⟨68, 0xFFFFFFFFFFFFFFFFF, 0x80000000000000002⟩
  | .decrypt => ⟨68, 0xFFFFFFFFFFFFFFFFF, 0x80000000000000003⟩
  | .permIp => ⟨8, 0xFF, 0x00⟩
  | .permFp => ⟨8, 0xFF, 0x01⟩
  | .permE => ⟨8, 0xFF, 0x02⟩
  | .permP => ⟨8, 0xFF, 0x03⟩
  | .permPc1 => ⟨8, 0xFF, 0x04⟩
  | .permPc2 => ⟨8, 0xFF, 0x05⟩
  | .rotl28By1 => ⟨8, 0xFF, 0x11⟩
  | .rotl28By2 => ⟨8, 0xFF, 0x12⟩
  | .sbox1 => ⟨8, 0xFF, 0x21⟩
  | .sbox2 => ⟨8, 0xFF, 0x22⟩
  | .sbox3 => ⟨8, 0xFF, 0x23⟩
  | .sbox4 => ⟨8, 0xFF, 0x24⟩
  | .sbox5 => ⟨8, 0xFF, 0x25⟩
  | .sbox6 => ⟨8, 0xFF, 0x26⟩
  | .sbox7 => ⟨8, 0xFF, 0x27⟩
  | .sbox8 => ⟨8, 0xFF, 0x28⟩
  | .xor48 => ⟨8, 0xFF, 0x30⟩
  | .xor32 => ⟨8, 0xFF, 0x40⟩
  | .ffunc => ⟨8, 0xFF, 0x50⟩
  | .round => ⟨8, 0xFF, 0x60⟩

/-- The length of an encoded form, in bits (R110). -/
def nbits : Encoded → Nat
  | .host68 _ => 68
  | .uop8 _ => 8

/-- An encoded form as a number. -/
def number : Encoded → Nat
  | .host68 w => w.toNat
  | .uop8 u => u.toNat

/-- The instruction's encoding has its row's length and matches its row's fixed bits. -/
def Statement (i : Instr) : Prop :=
  nbits (encode i) = (row i).nbits ∧ number (encode i) &&& (row i).mask = (row i).value

/-- A mask above the low 64 bits sees nothing of them. -/
theorem mask_high (a m d : Nat) (h : d < 2 ^ 64) : (a <<< 64 ||| d) &&& m <<< 64 = (a &&& m) <<< 64 := by
  refine Nat.eq_of_testBit_eq fun j => ?_
  rcases Nat.lt_or_ge j 64 with hj | hj
  · simp [Nat.testBit_shiftLeft, Nat.not_le.mpr hj]
  · have hd : d.testBit j = false := Nat.testBit_lt_two_pow (Nat.lt_of_lt_of_le h (Nat.pow_le_pow_right (by decide) hj))
    simp [Nat.testBit_shiftLeft, hj, hd]

/-- The fixed bits of a transaction are W and IDX, its top four (R100). -/
theorem encodeTxn_masked (b : Bool) (idx : RegIdx) (d : Block64) :
    number (encodeTxn b idx d) &&& 15 <<< 64 = (BitVec.ofBool b ++ idx.index).toNat <<< 64 := by
  have hm := mask_high (BitVec.ofBool b ++ idx.index).toNat 15 d.toNat d.isLt
  have ht : (BitVec.ofBool b ++ idx.index).toNat &&& 15 = (BitVec.ofBool b ++ idx.index).toNat := by
    cases b <;> cases idx <;> rfl
  rw [ht] at hm
  simpa only [encodeTxn, number, BitVec.toNat_append (BitVec.ofBool b ++ idx.index)] using hm

theorem rdCmd (v : Block64) : Statement (.rdCmd v) := ⟨rfl, encodeTxn_masked _ _ _⟩
theorem rdStatus (v : Block64) : Statement (.rdStatus v) := ⟨rfl, encodeTxn_masked _ _ _⟩
theorem rdKey (v : Block64) : Statement (.rdKey v) := ⟨rfl, encodeTxn_masked _ _ _⟩
theorem rdDin (v : Block64) : Statement (.rdDin v) := ⟨rfl, encodeTxn_masked _ _ _⟩
theorem rdDout (v : Block64) : Statement (.rdDout v) := ⟨rfl, encodeTxn_masked _ _ _⟩
theorem rdR5 (v : Block64) : Statement (.rdR5 v) := ⟨rfl, encodeTxn_masked _ _ _⟩
theorem rdR6 (v : Block64) : Statement (.rdR6 v) := ⟨rfl, encodeTxn_masked _ _ _⟩
theorem rdR7 (v : Block64) : Statement (.rdR7 v) := ⟨rfl, encodeTxn_masked _ _ _⟩
theorem wrCmd (v : Block64) : Statement (.wrCmd v) := ⟨rfl, encodeTxn_masked _ _ _⟩
theorem wrStatus (v : Block64) : Statement (.wrStatus v) := ⟨rfl, encodeTxn_masked _ _ _⟩
theorem wrKey (v : Block64) : Statement (.wrKey v) := ⟨rfl, encodeTxn_masked _ _ _⟩
theorem wrDin (v : Block64) : Statement (.wrDin v) := ⟨rfl, encodeTxn_masked _ _ _⟩
theorem wrDout (v : Block64) : Statement (.wrDout v) := ⟨rfl, encodeTxn_masked _ _ _⟩
theorem wrR5 (v : Block64) : Statement (.wrR5 v) := ⟨rfl, encodeTxn_masked _ _ _⟩
theorem wrR6 (v : Block64) : Statement (.wrR6 v) := ⟨rfl, encodeTxn_masked _ _ _⟩
theorem wrR7 (v : Block64) : Statement (.wrR7 v) := ⟨rfl, encodeTxn_masked _ _ _⟩
theorem keysched : Statement .keysched := ⟨rfl, rfl⟩
theorem encrypt : Statement .encrypt := ⟨rfl, rfl⟩
theorem decrypt : Statement .decrypt := ⟨rfl, rfl⟩
theorem permIp : Statement .permIp := ⟨rfl, rfl⟩
theorem permFp : Statement .permFp := ⟨rfl, rfl⟩
theorem permE : Statement .permE := ⟨rfl, rfl⟩
theorem permP : Statement .permP := ⟨rfl, rfl⟩
theorem permPc1 : Statement .permPc1 := ⟨rfl, rfl⟩
theorem permPc2 : Statement .permPc2 := ⟨rfl, rfl⟩
theorem rotl28By1 : Statement .rotl28By1 := ⟨rfl, rfl⟩
theorem rotl28By2 : Statement .rotl28By2 := ⟨rfl, rfl⟩
theorem sbox1 : Statement .sbox1 := ⟨rfl, rfl⟩
theorem sbox2 : Statement .sbox2 := ⟨rfl, rfl⟩
theorem sbox3 : Statement .sbox3 := ⟨rfl, rfl⟩
theorem sbox4 : Statement .sbox4 := ⟨rfl, rfl⟩
theorem sbox5 : Statement .sbox5 := ⟨rfl, rfl⟩
theorem sbox6 : Statement .sbox6 := ⟨rfl, rfl⟩
theorem sbox7 : Statement .sbox7 := ⟨rfl, rfl⟩
theorem sbox8 : Statement .sbox8 := ⟨rfl, rfl⟩
theorem xor48 : Statement .xor48 := ⟨rfl, rfl⟩
theorem xor32 : Statement .xor32 := ⟨rfl, rfl⟩
theorem ffunc : Statement .ffunc := ⟨rfl, rfl⟩
theorem round : Statement .round := ⟨rfl, rfl⟩

end Sys2Proof.Laws.TableRow
end

