-- ==== Sys2Proof/Laws/Step.lean ====
section
/-! SUPPORT. What one step can do, said once (R78, R268 to R272, R330). -/

namespace Sys2Proof.Machine

/-- The Host's turn: the schedule gives it, or is spent with no operation in flight (log entry 5). -/
def HostMoves (s : State) : Prop := (∃ turns, s.sched = .host :: turns) ∨ (s.sched = [] ∧ s.arch.pend = .none)

/-- The events of the model, with where each comes from (R78, R268). `sched` is what is left of the schedule. -/
inductive Happens (s : State) : State → Prop where
  /-- Nothing: the agent whose turn it is has no step (R272, R316). -/
  | idle (sched : List Turn) : Happens s { s with sched := sched }
  /-- A host read (R260). -/
  | read (sched : List Turn) (host : List HostItem) (idx : RegIdx)
      (hh : host = s.host ∨ ∃ item, s.host = item :: host) :
      Happens s (hostRead idx { s with sched := sched, host := host })
  /-- A host write (R261), from the transaction at the head of the host's program, in a Host's turn. -/
  | write (sched : List Turn) (host : List HostItem) (w : Txn68) (hw : s.host = .txn w :: host)
      (isWrite : txnIsWrite w = true) (turn : HostMoves s) :
      Happens s (hostWrite (RegIdx.ofIndex (txnIndex w)) (txnData w) { s with sched := sched, host := host })
  /-- The Engine's Complete (R270), in an Engine's turn or by default. -/
  | complete (sched : List Turn) (turn : s.sched = .engine :: sched ∨ s.sched = []) :
      Happens s (complete { s with sched := sched })
  /-- A cycle of the reference sequencer (R238). -/
  | cycle (sched : List Turn) (h : s.sched = .cycle :: sched) : Happens s (seqCycle { s with sched := sched })
  /-- Reset (R330). -/
  | reset (sched : List Turn) (h : s.sched = .reset :: sched) : Happens s (resetEvent { s with sched := sched })
  /-- A micro-operation (R105). -/
  | uop (sched : List Turn) (u : Select8) (h : s.sched = .uop u :: sched) (f : Datapath → Datapath) :
      Happens s (State.onDatapath f { s with sched := sched })

/-- Where a host turn leads: nothing, a transaction, or one read of POLL. -/
theorem hostTurn_cases (s : State) :
    hostTurn s = .event s ∨
    (∃ w rest, s.host = .txn w :: rest ∧ hostTurn s = .run (decodeHost w) { s with host := rest }) ∨
    (∃ host rest, s.host = .poll :: rest ∧ (host = s.host ∨ host = rest) ∧ hostTurn s = .run (.rdStatus 0) { s with host := host }) := by
  unfold hostTurn
  split
  · exact .inl rfl
  · next w rest h => exact .inr (.inl ⟨w, rest, h, rfl⟩)
  · next rest h =>
    split
    · exact .inr (.inr ⟨_, rest, h, .inr rfl, rfl⟩)
    · exact .inr (.inr ⟨s.host, rest, h, .inl rfl, rfl⟩)

/-- What a host turn leads to once its instruction has run. -/
theorem happens_of_hostTurn {s t : State} (sched : List Turn) (turn : HostMoves s)
    (h : (match hostTurn { s with sched := sched } with
      | .run i s' => exec i s'
      | .event s' => .next s'
      | .refuse r => .refused r) = Host.Outcome.next t) : Happens s t := by
  obtain he | ⟨w, rest, hw, he⟩ | ⟨host, rest, hp, hh, he⟩ := hostTurn_cases { s with sched := sched }
  · rw [he] at h; cases h; exact .idle _
  · simp only [he, exec_decodeHost] at h
    split at h <;> cases h
    · next hW => exact .write sched rest w hw hW turn
    · exact .read sched rest _ (.inr ⟨_, hw⟩)
  · rw [he] at h; cases h; exact .read sched host .status (hh.imp_right fun e => ⟨_, e ▸ hp⟩)

/-- Every step that answers a next state is one event (R78). -/
theorem step_cases {s t : State} (h : step s = .next t) : Happens s t := by
  rcases hs : s.sched with _ | ⟨turn, rest⟩
  · rcases hp : s.arch.pend with _ | k | ⟨dir, b⟩ <;> simp only [step, fetch, hs, defaultTurn, hp] at h
    · exact happens_of_hostTurn s.sched (.inr ⟨hs, hp⟩) h
    all_goals cases h; exact .complete s.sched (.inr hs)
  · cases turn <;> simp only [step, fetch, hs] at h
    case host => exact happens_of_hostTurn rest (.inl ⟨rest, hs⟩) h
    case engine => cases h; exact .complete rest (.inl hs)
    case cycle => cases h; exact .cycle rest hs
    case reset => cases h; exact .reset rest hs
    case uop u =>
      simp only [uopTurn, decode] at h
      rcases hu : decodeUop u with e | i
      · rw [hu] at h; cases e; cases h
      · rw [hu] at h
        obtain ⟨f, hf⟩ := exec_decodeUop hu { s with sched := rest }
        simp only [hf] at h
        cases h
        exact .uop rest u hs f

end Sys2Proof.Machine
end

