-- ==== Sys2Proof/Tests/Slice0.lean ====
section
/-! SUPPORT. Small tests with values taken from spec/ (ENC-1, R105, and the vectors of 95_test_vectors.md), and for each
obligation with hypotheses a concrete state and operands that meet them together. -/

namespace Sys2Proof.Tests

-- Many small theorems: elaborated one at a time, so that they do not hold a thread each.
set_option Elab.async false

open Sys2Proof Sys2Proof.Machine

/-! ### Small states -/

/-- A STATUS field of the state an outcome leaves, if it is a next state. -/
def stateOf : Result → Option State
  | .next s => some s
  | .fault _ => none
  | .refused _ => none

/-- The STATUS word an instruction leaves. -/
def statusAfter (i : Instr) (s : State) : Option Block64 := (stateOf (exec i s)).map fun t => t.arch.status.word

/-- What an instruction leaves on the datapath. -/
def dpAfter (i : Instr) (d : Datapath) : Option Datapath :=
  (stateOf (exec i { State.reset with dp := d })).map fun t => t.dp

/-- The value a read returns. -/
def valueRead (i : Instr) (s : State) : Option Block64 := (stateOf (exec i s)).bind fun t => t.returned.head?

/-- A state with this STATUS and this PEND, the key and block of KAT-1 in KEY and DIN, a mark in DOUT, and RK all zero. -/
def mk (st : Status) (p : Pend) : State :=
  { State.reset with
    arch :=
      { key := 0x133457799BBCDFF1, din := 0x0123456789ABCDEF, dout := 0x1122334455667788, status := st,
        rk := zeroSchedule, pend := p } }

/-- STATUS = 0x6: idle with a key. The schedule of the weak key 0x0101010101010101 is all zero (KS-4). -/
def idleKeyed : State := mk { busy := false, kv := true, done := true, err := false, ecode := 0, ovr := false } .none

/-- STATUS = 0x28: NO_KEY recorded. -/
def noKey : State := mk { busy := false, kv := false, done := false, err := true, ecode := 2, ovr := false } .none

/-- STATUS = 0x1A: ILLEGAL_CMD recorded, KV = 1. -/
def illegalKeyed : State := mk { busy := false, kv := true, done := false, err := true, ecode := 1, ovr := false } .none

/-- STATUS = 0x3: ENCRYPT of KAT-1's block in flight. -/
def encFlight : State :=
  mk { busy := true, kv := true, done := false, err := false, ecode := 0, ovr := false } (.blk .enc 0x0123456789ABCDEF)

/-- STATUS = 0x3: DECRYPT in flight. -/
def decFlight : State :=
  mk { busy := true, kv := true, done := false, err := false, ecode := 0, ovr := false } (.blk .dec 0x85E813540F0AB405)

/-- STATUS = 0x1: KEYSCHED of KAT-1's key in flight, KV = 0. -/
def ksFlight : State :=
  mk { busy := true, kv := false, done := false, err := false, ecode := 0, ovr := false } (.ks 0x133457799BBCDFF1)

/-- STATUS = 0x106: idle with a key, a command lost while the last operation was in flight. -/
def overrun : State := mk { busy := false, kv := true, done := true, err := false, ecode := 0, ovr := true } .none

/-! ### Well-formedness refuses the ill-formed terms -/

theorem test_wf_wrCmd_keysched_word : (Instr.wrCmd 0x1).wf = false := by decide
theorem test_wf_wrCmd_encrypt_word : (Instr.wrCmd 0x2).wf = false := by decide
theorem test_wf_wrCmd_decrypt_word : (Instr.wrCmd 0x3).wf = false := by decide
theorem test_wf_wrCmd_illegal_word : (Instr.wrCmd 0x4).wf = true := by decide
theorem test_wf_table_entry_zero : tableWf 4 #v[1, 0, 3, 4] = false := by decide
theorem test_wf_table_entry_beyond : tableWf 4 #v[1, 2, 3, 5] = false := by decide
theorem test_wf_table_boundary : tableWf 4 #v[1, 4, 4, 1] = true := by decide

theorem test_wf_malformed_ip :
    ({ hardwareTables with ip := Vector.replicate 64 65 } : TableSet).wf = false := by decide +kernel
theorem test_wf_malformed_fp :
    ({ hardwareTables with fp := Vector.replicate 64 65 } : TableSet).wf = false := by decide +kernel
theorem test_wf_malformed_e :
    ({ hardwareTables with e := Vector.replicate 48 33 } : TableSet).wf = false := by decide +kernel
theorem test_wf_malformed_p :
    ({ hardwareTables with p := Vector.replicate 32 33 } : TableSet).wf = false := by decide +kernel
theorem test_wf_malformed_pc1 :
    ({ hardwareTables with pc1 := Vector.replicate 56 65 } : TableSet).wf = false := by decide +kernel
theorem test_wf_malformed_pc2 :
    ({ hardwareTables with pc2 := Vector.replicate 48 57 } : TableSet).wf = false := by decide +kernel
theorem test_powerOn_malformed_faults :
    powerOn { hardwareTables with pc2 := Vector.replicate 48 0 } = .fault .malformedTable := rfl

/-! ### Every constructor decodes from its word, written out from ENC-1 (R100 to R102) and R105 -/

theorem test_decode_rdCmd : decode (.host68 0x00000000000000000) = .ok (.rdCmd 0) := by decide
theorem test_decode_rdStatus : decode (.host68 0x10000000000000000) = .ok (.rdStatus 0) := by decide
theorem test_decode_rdKey : decode (.host68 0x20000000000000000) = .ok (.rdKey 0) := by decide
theorem test_decode_rdDin : decode (.host68 0x30000000000000000) = .ok (.rdDin 0) := by decide
theorem test_decode_rdDout : decode (.host68 0x40000000000000000) = .ok (.rdDout 0) := by decide
theorem test_decode_rdR5 : decode (.host68 0x50000000000000000) = .ok (.rdR5 0) := by decide
theorem test_decode_rdR6 : decode (.host68 0x60000000000000000) = .ok (.rdR6 0) := by decide
theorem test_decode_rdR7 : decode (.host68 0x7FFFFFFFFFFFFFFFF) = .ok (.rdR7 0xFFFFFFFFFFFFFFFF) := by decide
theorem test_decode_wrCmd : decode (.host68 0x80000000000000004) = .ok (.wrCmd 0x4) := by decide
theorem test_decode_wrCmd_high_bits_not_ignored : decode (.host68 0x88000000000000001) = .ok (.wrCmd 0x8000000000000001) := by decide
theorem test_decode_wrStatus : decode (.host68 0x9FFFFFFFFFFFFFFFF) = .ok (.wrStatus 0xFFFFFFFFFFFFFFFF) := by decide
theorem test_decode_wrKey : decode (.host68 0xA133457799BBCDFF1) = .ok (.wrKey 0x133457799BBCDFF1) := by decide
theorem test_decode_wrDin : decode (.host68 0xB0123456789ABCDEF) = .ok (.wrDin 0x0123456789ABCDEF) := by decide
theorem test_decode_wrDout : decode (.host68 0xC0000000000000001) = .ok (.wrDout 0x1) := by decide
theorem test_decode_wrR5 : decode (.host68 0xD0000000000000002) = .ok (.wrR5 0x2) := by decide
theorem test_decode_wrR6 : decode (.host68 0xE0000000000000003) = .ok (.wrR6 0x3) := by decide
theorem test_decode_wrR7 : decode (.host68 0xF8000000000000000) = .ok (.wrR7 0x8000000000000000) := by decide
theorem test_decode_keysched : decode (.host68 0x80000000000000001) = .ok .keysched := by decide
theorem test_decode_encrypt : decode (.host68 0x80000000000000002) = .ok .encrypt := by decide
theorem test_decode_decrypt : decode (.host68 0x80000000000000003) = .ok .decrypt := by decide
theorem test_decode_permIp : decode (.uop8 0b00000000) = .ok .permIp := by decide
theorem test_decode_permFp : decode (.uop8 0b00000001) = .ok .permFp := by decide
theorem test_decode_permE : decode (.uop8 0b00000010) = .ok .permE := by decide
theorem test_decode_permP : decode (.uop8 0b00000011) = .ok .permP := by decide
theorem test_decode_permPc1 : decode (.uop8 0b00000100) = .ok .permPc1 := by decide
theorem test_decode_permPc2 : decode (.uop8 0b00000101) = .ok .permPc2 := by decide
theorem test_decode_rotl28By1 : decode (.uop8 0b00010001) = .ok .rotl28By1 := by decide
theorem test_decode_rotl28By2 : decode (.uop8 0b00010010) = .ok .rotl28By2 := by decide
theorem test_decode_sbox1 : decode (.uop8 0b00100001) = .ok .sbox1 := by decide
theorem test_decode_sbox2 : decode (.uop8 0b00100010) = .ok .sbox2 := by decide
theorem test_decode_sbox3 : decode (.uop8 0b00100011) = .ok .sbox3 := by decide
theorem test_decode_sbox4 : decode (.uop8 0b00100100) = .ok .sbox4 := by decide
theorem test_decode_sbox5 : decode (.uop8 0b00100101) = .ok .sbox5 := by decide
theorem test_decode_sbox6 : decode (.uop8 0b00100110) = .ok .sbox6 := by decide
theorem test_decode_sbox7 : decode (.uop8 0b00100111) = .ok .sbox7 := by decide
theorem test_decode_sbox8 : decode (.uop8 0b00101000) = .ok .sbox8 := by decide
theorem test_decode_xor48 : decode (.uop8 0b00110000) = .ok .xor48 := by decide
theorem test_decode_xor32 : decode (.uop8 0b01000000) = .ok .xor32 := by decide
theorem test_decode_ffunc : decode (.uop8 0b01010000) = .ok .ffunc := by decide
theorem test_decode_round : decode (.uop8 0b01100000) = .ok .round := by decide
theorem test_decode_reserved_tsel6 : decode (.uop8 0x06) = .error (.reservedSelect 0x06) := by decide
theorem test_decode_reserved_rotl0 : decode (.uop8 0x10) = .error (.reservedSelect 0x10) := by decide
theorem test_decode_reserved_sbox9 : decode (.uop8 0x29) = .error (.reservedSelect 0x29) := by decide
theorem test_decode_reserved_unit7 : decode (.uop8 0x70) = .error (.reservedSelect 0x70) := by decide
theorem test_tsel_pc2 : permSelOfTsel 5 = .ok .pc2 := by decide
theorem test_tsel_reserved : permSelOfTsel 6 = .error (.reservedSelect 6) := by decide
theorem test_table_word_keysched : decodeTableWord 72 0x80000000000000001 = some .keysched := by decide
theorem test_table_word_too_long : decodeTableWord 72 0x100000000000000000 = none := by decide

/-! ### Commands and STATUS (CMD-1) -/

theorem test_cmd_reset_keysched : statusAfter .keysched State.reset = some 0x1 := by decide
theorem test_cmd_reset_encrypt : statusAfter .encrypt State.reset = some 0x28 := by decide
theorem test_cmd_reset_decrypt : statusAfter .decrypt State.reset = some 0x28 := by decide
theorem test_cmd_reset_zero_word : statusAfter (.wrCmd 0x0) State.reset = some 0x18 := by decide
theorem test_cmd_keyed_keysched : statusAfter .keysched idleKeyed = some 0x3 := by decide
theorem test_cmd_keyed_encrypt : statusAfter .encrypt idleKeyed = some 0x3 := by decide
theorem test_cmd_keyed_illegal : statusAfter (.wrCmd 0x4) idleKeyed = some 0x1A := by decide
theorem test_cmd_error_cleared : statusAfter (.wrCmd 0x1) noKey = some 0x1 := by decide
theorem test_cmd_illegal_then_decrypt : statusAfter .decrypt illegalKeyed = some 0x3 := by decide
theorem test_cmd_busy_not_decoded : statusAfter (.wrCmd 0x4) encFlight = some 0x103 := by decide
theorem test_cmd_busy_no_key : statusAfter .encrypt ksFlight = some 0x101 := by decide

/-- STATUS after the engine step (CMD-1): 0x103 becomes 0x106. -/
theorem test_complete_keeps_ovr :
    (complete (dropCmd encFlight)).arch.status.word = 0x106 := by decide
theorem test_complete_keysched_status : (complete ksFlight).arch.status.word = 0x6 := by decide

/-! ### Reads and ignored writes -/

theorem test_read_cmd : valueRead (.rdCmd 0xFFFFFFFFFFFFFFFF) encFlight = some 0x0 := by decide
theorem test_read_status_busy : valueRead (.rdStatus 0) encFlight = some 0x3 := by decide
theorem test_read_key : valueRead (.rdKey 0) encFlight = some 0x133457799BBCDFF1 := by decide
theorem test_read_din : valueRead (.rdDin 0) encFlight = some 0x0123456789ABCDEF := by decide
theorem test_read_dout : valueRead (.rdDout 0) encFlight = some 0x1122334455667788 := by decide
theorem test_read_r5 : valueRead (.rdR5 0) encFlight = some 0x0 := by decide
theorem test_read_r6 : valueRead (.rdR6 0) encFlight = some 0x0 := by decide
theorem test_read_r7 : valueRead (.rdR7 0) encFlight = some 0x0 := by decide
theorem test_write_status_ignored : stateOf (exec (.wrStatus 0xFFFFFFFFFFFFFFFF) encFlight) = some encFlight := by decide
theorem test_write_dout_ignored : stateOf (exec (.wrDout 0x1) encFlight) = some encFlight := by decide
theorem test_write_r5_ignored : stateOf (exec (.wrR5 0x1) encFlight) = some encFlight := by decide
theorem test_write_r6_ignored : stateOf (exec (.wrR6 0x1) encFlight) = some encFlight := by decide
theorem test_write_r7_ignored : stateOf (exec (.wrR7 0x1) encFlight) = some encFlight := by decide
theorem test_write_key_keeps_snapshot :
    (stateOf (exec (.wrKey 0x0) ksFlight)).map (fun t => (t.arch.key, t.arch.pend)) =
      some (0x0, .ks 0x133457799BBCDFF1) := by decide
theorem test_write_din_keeps_snapshot :
    (stateOf (exec (.wrDin 0x8787878787878787) encFlight)).map (fun t => (t.arch.din, t.arch.pend)) =
      some (0x8787878787878787, .blk .enc 0x0123456789ABCDEF) := by decide

/-! ### Micro-operations (PERM-1, KS-2, SB-2, F-1) -/

theorem test_permIp_1 :
    (dpAfter .permIp { Datapath.reset with x := 0x0123456789ABCDEF }).map (fun d => d.y) = some 0xCC00CCFFF0AAF0AA := by decide +kernel
theorem test_permIp_2 :
    (dpAfter .permIp { Datapath.reset with x := 0x8000000000000000 }).map (fun d => d.y) = some 0x0000000001000000 := by decide +kernel
theorem test_permFp_1 :
    (dpAfter .permFp { Datapath.reset with x := 0x0A4CD99543423234 }).map (fun d => d.y) = some 0x85E813540F0AB405 := by decide +kernel
theorem test_permFp_2 :
    (dpAfter .permFp { Datapath.reset with x := 0x0000000000000001 }).map (fun d => d.y) = some 0x0200000000000000 := by decide +kernel
theorem test_permE_1 :
    (dpAfter .permE { Datapath.reset with x := 0xFFFFFFFFF0AAF0AA }).map (fun d => d.y) = some 0x00007A15557A1555 := by decide +kernel
theorem test_permE_2 :
    (dpAfter .permE { Datapath.reset with x := 0x80000000 }).map (fun d => d.y) = some 0x400000000001 := by decide +kernel
theorem test_permP_1 :
    (dpAfter .permP { Datapath.reset with x := 0x000000005C82B597 }).map (fun d => d.y) = some 0x00000000234AA9BB := by decide +kernel
theorem test_permP_2 :
    (dpAfter .permP { Datapath.reset with x := 0x00000001 }).map (fun d => d.y) = some 0x00000800 := by decide +kernel
theorem test_permPc1_1 :
    (dpAfter .permPc1 { Datapath.reset with x := 0x133457799BBCDFF1 }).map (fun d => d.y) = some 0xF0CCAAF556678F := by decide +kernel
theorem test_permPc1_2 :
    (dpAfter .permPc1 { Datapath.reset with x := 0x8000000000000000 }).map (fun d => d.y) = some 0x01000000000000 := by decide +kernel
theorem test_permPc2_1 :
    (dpAfter .permPc2 { Datapath.reset with x := 0xE19955FAACCF1E }).map (fun d => d.y) = some 0x1B02EFFC7072 := by decide +kernel
theorem test_permPc2_2 :
    (dpAfter .permPc2 { Datapath.reset with x := 0x00000000000001 }).map (fun d => d.y) = some 0x000000000100 := by decide +kernel
theorem test_rotl28By1_1 :
    (dpAfter .rotl28By1 { Datapath.reset with h := 0x8000001 }).map (fun d => d.hRot) = some 0x0000003 := by decide
theorem test_rotl28By1_2 :
    (dpAfter .rotl28By1 { Datapath.reset with h := 0xF0CCAAF }).map (fun d => d.hRot) = some 0xE19955F := by decide
theorem test_rotl28By2_1 :
    (dpAfter .rotl28By2 { Datapath.reset with h := 0x8000001 }).map (fun d => d.hRot) = some 0x0000006 := by decide
theorem test_rotl28By2_2 :
    (dpAfter .rotl28By2 { Datapath.reset with h := 0xC000000 }).map (fun d => d.hRot) = some 0x0000003 := by decide
theorem test_sbox1 :
    (dpAfter .sbox1 { Datapath.reset with mix := 0x6117BA866527 }).map (fun d => d.sOut) = some 0x50000000 := by
  decide +kernel
theorem test_sbox2 :
    (dpAfter .sbox2 { Datapath.reset with mix := 0x6117BA866527 }).map (fun d => d.sOut) = some 0x0C000000 := by
  decide +kernel
theorem test_sbox3 :
    (dpAfter .sbox3 { Datapath.reset with mix := 0x6117BA866527 }).map (fun d => d.sOut) = some 0x00800000 := by
  decide +kernel
theorem test_sbox4 :
    (dpAfter .sbox4 { Datapath.reset with mix := 0x6117BA866527 }).map (fun d => d.sOut) = some 0x00020000 := by
  decide +kernel
theorem test_sbox5 :
    (dpAfter .sbox5 { Datapath.reset with mix := 0x6117BA866527 }).map (fun d => d.sOut) = some 0x0000B000 := by
  decide +kernel
theorem test_sbox6 :
    (dpAfter .sbox6 { Datapath.reset with mix := 0x6117BA866527 }).map (fun d => d.sOut) = some 0x00000500 := by
  decide +kernel
theorem test_sbox7 :
    (dpAfter .sbox7 { Datapath.reset with mix := 0x6117BA866527 }).map (fun d => d.sOut) = some 0x00000090 := by
  decide +kernel
theorem test_sbox8 :
    (dpAfter .sbox8 { Datapath.reset with mix := 0x6117BA866527 }).map (fun d => d.sOut) = some 0x00000007 := by
  decide +kernel
theorem test_sbox3_keeps_other_lanes :
    (dpAfter .sbox3 { Datapath.reset with mix := 0x6117BA866527, sOut := 0xFFFFFFFF }).map (fun d => d.sOut) =
      some 0xFF8FFFFF := by decide +kernel
theorem test_sbox_corner_33 : (List.finRange 8).map (fun i => sbox i 0b100001) = [15, 13, 1, 3, 11, 4, 6, 2] := by
  decide +kernel
theorem test_slayer : slayer 0x6117BA866527 = 0x5C82B597 := by decide +kernel
theorem test_xor48 :
    (dpAfter .xor48 { Datapath.reset with e := 0x7A15557A1555, k := 0x1B02EFFC7072 }).map (fun d => d.mix) =
      some 0x6117BA866527 := by decide
theorem test_xor32 :
    (dpAfter .xor32 { Datapath.reset with l := 0xCC00CCFF, f := 0x234AA9BB }).map (fun d => d.lf) = some 0xEF4A6544 := by
  decide
theorem test_ffunc :
    (dpAfter .ffunc { Datapath.reset with r := 0xF0AAF0AA, k := 0x1B02EFFC7072 }).map (fun d => d.f) =
      some 0x234AA9BB := by decide +kernel
theorem test_round :
    (dpAfter .round { Datapath.reset with l := 0xCC00CCFF, r := 0xF0AAF0AA, k := 0x1B02EFFC7072 }).map
      (fun d => (d.lNext, d.rNext)) = some (0xF0AAF0AA, 0xEF4A6544) := by decide +kernel

/-! ### The key schedule and the block (KS-1, CI-1, CI-2) -/

theorem test_halves_after_9 : halvesAfter 0x133457799BBCDFF1 9 = (0x557F866, 0x3C7AAB3) := by decide +kernel
theorem test_round_key_1 : (deriveRoundKeys 0x133457799BBCDFF1)[0] = 0x1B02EFFC7072 := by decide +kernel
theorem test_round_key_16 : (deriveRoundKeys 0x133457799BBCDFF1)[15] = 0xCB3D8B0E17F5 := by decide +kernel
theorem test_halves_of_round_8 :
    roundsAfter .enc (deriveRoundKeys 0x133457799BBCDFF1) 0x0123456789ABCDEF 8 = (0x064ABA10, 0xD5694B90) := by
  decide +kernel
theorem test_decrypt_uses_key_16_first :
    roundsAfter .dec (deriveRoundKeys 0x133457799BBCDFF1) 0x85E813540F0AB405 1 = (0x43423234, 0xC28C960D) := by
  decide +kernel
theorem test_single_key_bit :
    encryptBlock 0x0 (deriveRoundKeys 0x8001010101010101) = 0x95A8D72813DAA94D := by decide +kernel
theorem test_decrypt_differs :
    decryptBlock 0x0123456789ABCDEF (deriveRoundKeys 0x133457799BBCDFF1) = 0xEE0F7C12E0B09338 := by decide +kernel
theorem test_bytes :
    blockOfBytes #v[0x13, 0x34, 0x57, 0x79, 0x9B, 0xBC, 0xDF, 0xF1] = 0x133457799BBCDFF1 := by decide
theorem test_bus_offsets :
    (indexOfByteOffset 16, indexOfByteOffset 20, indexOfByteOffset 64) = (some 2, none, none) := by decide

/-! ### One step -/

/-- After reset the first step runs the word that is placed. -/
theorem test_step_keysched :
    (stateOf (step (State.reset.withFetchWord 72 0x80000000000000001))).map (fun t => t.arch.pend) =
      some (.ks 0x0) := by decide
theorem test_step_uop :
    (stateOf (step (State.reset.withFetchWord 8 0x30))).map (fun t => t.sched) = some [] := by decide
theorem test_step_reserved_uop : step { State.reset with sched := [.uop 0x07] } = .refused (.reservedSelect 0x07) := rfl
/-- POLL reads STATUS and stays while BUSY = 1 (R109). -/
theorem test_poll_busy :
    (stateOf (step { encFlight with host := [.poll], sched := [.host] })).map (fun t => (t.host, t.returned)) =
      some ([.poll], [0x3]) := by decide
theorem test_poll_idle :
    (stateOf (step { idleKeyed with host := [.poll], sched := [.host] })).map (fun t => (t.host, t.returned)) =
      some ([], [0x6]) := by decide
/-- KEYSCHED's completion publishes the schedule of the weak key (KS-4). -/
theorem test_engine_keysched :
    (stateOf (step { ksFlight with arch := { ksFlight.arch with pend := .ks 0x1F1F1F1F0E0E0E0E }, sched := [.engine] })).map
      (fun t => t.arch.rk) = some (Vector.replicate 16 0x000000FFFFFF) := by decide +kernel
/-- ENCRYPT under the all-zero schedule of the weak key 0x0101010101010101 (CI-2). -/
theorem test_engine_encrypt :
    (stateOf (step { encFlight with sched := [.engine] })).map (fun t => t.arch.dout) = some 0x617B3A0CE8F07100 := by
  decide +kernel
/-- The last cycle of the reference sequencer commits the same value (CI-1's PRE and FP). -/
theorem test_cycle_18 :
    (seqCycle
      { encFlight with work := { Work.reset with rnd := 17, wl := 0x43423234, wr := 0x0A4CD995 } }).arch.dout =
        0x85E813540F0AB405 := by decide +kernel
theorem test_cycle_1_keysched :
    ((seqCycle ksFlight).work.wc, (seqCycle ksFlight).work.wd, (seqCycle ksFlight).work.rnd) =
      (0xF0CCAAF, 0x556678F, 1) := by decide +kernel
theorem test_reset_aborts :
    (stateOf (step { encFlight with sched := [.reset] })).map
      (fun t => (t.arch.pend, t.arch.status.word, t.arch.dout)) = some (.none, 0x0, 0x0) := by decide

/-! ### Witnesses: a state and operands that meet the hypotheses of each obligation together -/

theorem witness_StatusWordLayout : 9 ≤ 9 ∧ 9 ≤ 63 := by decide

/-- A CMD write that is dropped, an accepted one that clears OVR, and a Reset that does. -/
theorem witness_BusyDropsCommands :
    (encFlight.arch.status.busy = true ∧ ksFlight.arch.status.busy = true ∧
      ∀ i ∈ [Instr.wrCmd 0x4, .keysched, .encrypt, .decrypt],
        i = .wrCmd 0x4 ∨ i = .keysched ∨ i = .encrypt ∨ i = .decrypt) ∧
    overrun.arch.status.ovr = true ∧
    (∃ t, step { overrun with host := [.txn 0x80000000000000000], sched := [.host] } = .next t ∧
      t.arch.status.ovr = false) ∧
    ∃ t, step { overrun with sched := [.reset] } = .next t ∧ t.arch.status.ovr = false :=
  ⟨by decide, rfl, ⟨_, rfl, by decide⟩, ⟨_, rfl, rfl⟩⟩

theorem witness_IllegalCommandRecorded :
    idleKeyed.arch.status.busy = false ∧
    ((0x0 : Block64) ≠ 0x1 ∧ (0x0 : Block64) ≠ 0x2 ∧ (0x0 : Block64) ≠ 0x3) ∧
    ((0x4 : Block64) ≠ 0x1 ∧ (0x4 : Block64) ≠ 0x2 ∧ (0x4 : Block64) ≠ 0x3) := by decide

theorem witness_KeyschedStarts :
    illegalKeyed.arch.status.busy = false ∧ noKey.arch.status.busy = false ∧
    ∀ i ∈ [Instr.keysched, .wrCmd 0x1], i = .keysched ∨ i = .wrCmd 0x1 := by decide

theorem witness_BlockCommandsStartOrReject :
    (idleKeyed.arch.status.busy = false ∧ idleKeyed.arch.status.kv = true) ∧
    (noKey.arch.status.busy = false ∧ noKey.arch.status.kv = false) ∧
    ∀ di ∈ [(Dir.enc, Instr.encrypt), (.enc, .wrCmd 0x2), (.dec, .decrypt), (.dec, .wrCmd 0x3)],
      (di.1 = .enc ∧ (di.2 = .encrypt ∨ di.2 = .wrCmd 0x2)) ∨
      (di.1 = .dec ∧ (di.2 = .decrypt ∨ di.2 = .wrCmd 0x3)) := by decide

theorem witness_OperandSnapshotIsolated :
    noKey.arch.status.busy = false ∧ idleKeyed.arch.status.busy = false ∧ idleKeyed.arch.status.kv = true := by decide

/-- A rejection with NO_KEY, and one with ILLEGAL_CMD. -/
theorem witness_RejectedCommandRepeats :
    (noKey.arch.status.busy = false ∧ ∃ t, exec .encrypt noKey = .next t ∧ t.arch.status.err = true) ∧
    (idleKeyed.arch.status.busy = false ∧ ∃ t, exec (.wrCmd 0x4) idleKeyed = .next t ∧ t.arch.status.err = true) :=
  ⟨⟨rfl, _, rfl, rfl⟩, ⟨rfl, _, rfl, rfl⟩⟩

theorem witness_InstructionsKeepOperationInFlight :
    encFlight.arch.status.busy = true ∧ ∃ t, exec .keysched encFlight = .next t ∧ t ≠ encFlight :=
  ⟨rfl, _, rfl, by decide⟩

/-- The engine's turn in each of the four cases of PEND. -/
theorem witness_EngineTurnCompletes :
    ({ idleKeyed with sched := [.engine] } : State).arch.pend = .none ∧
    ({ ksFlight with sched := [.engine] } : State).arch.pend = .ks 0x133457799BBCDFF1 ∧
    ({ encFlight with sched := [.engine] } : State).arch.pend = .blk .enc 0x0123456789ABCDEF ∧
    ({ decFlight with sched := [.engine] } : State).arch.pend = .blk .dec 0x85E813540F0AB405 := by decide

/-- Two states that differ in KEY, DIN and DOUT, agree on PEND and RK, and both complete. -/
theorem witness_ResultsReadOnlySnapshotAndKeys :
    ∃ s t s' t' : State, s.sched = [.engine] ∧ t.sched = [.engine] ∧ s.arch.pend = t.arch.pend ∧
      s.arch.rk = t.arch.rk ∧ step s = .next s' ∧ step t = .next t' ∧ s.arch.key ≠ t.arch.key ∧
      ∃ dir b, s.arch.pend = .blk dir b :=
  ⟨{ encFlight with sched := [.engine] },
    { encFlight with sched := [.engine], arch := { encFlight.arch with key := 0, din := 0, dout := 0 } },
    _, _, rfl, rfl, rfl, rfl, rfl, rfl, by decide, _, _, rfl⟩

/-- KEYSCHED in flight, the engine's turn next. The snapshot is the weak key whose round keys are 0x000000FFFFFF. -/
def ksEngine : State :=
  { ksFlight with arch := { ksFlight.arch with pend := .ks 0x1F1F1F1F0E0E0E0E }, sched := [.engine] }

/-- The sequencer in the last round of KEYSCHED: RND = 16, its registers as the rules give them. -/
def ksCycle17 : State :=
  { ksFlight with
    work :=
      { Work.reset with
        rnd := 16, wc := (halvesAfter 0x133457799BBCDFF1 15).1, wd := (halvesAfter 0x133457799BBCDFF1 15).2,
        rks := deriveRoundKeys 0x133457799BBCDFF1 }
    sched := [.cycle] }

/-- The sequencer before the last cycle of a block operation: RND = 17. -/
def blkCycle18 : State :=
  { encFlight with
    work :=
      { Work.reset with
        rnd := 17, wl := (roundsAfter .enc zeroSchedule 0x0123456789ABCDEF 16).1,
        wr := (roundsAfter .enc zeroSchedule 0x0123456789ABCDEF 16).2 }
    sched := [.cycle] }

theorem ksEngine_seqInv : SeqInv ksEngine := ⟨by decide, fun h => absurd h (by decide)⟩
theorem ksCycle17_seqInv : SeqInv ksCycle17 := ⟨by decide, fun _ => ⟨rfl, fun _ _ _ => rfl⟩⟩
theorem blkCycle18_seqInv : SeqInv blkCycle18 := ⟨by decide, fun _ => rfl⟩

theorem witness_SchedulePublishedWhole :
    SeqInv ksEngine ∧ ∃ t, step ksEngine = .next t ∧ t.arch.rk ≠ ksEngine.arch.rk :=
  ⟨ksEngine_seqInv, _, rfl, by decide +kernel⟩

theorem witness_DoutChangesOnlyByCompletion :
    (SeqInv blkCycle18 ∧ ∃ t, step blkCycle18 = .next t ∧ t.arch.dout ≠ blkCycle18.arch.dout) ∧
    (SeqInv { idleKeyed with sched := [.reset] } ∧
      ∃ t, step { idleKeyed with sched := [.reset] } = .next t ∧ t.arch.dout ≠ idleKeyed.arch.dout) :=
  ⟨⟨blkCycle18_seqInv, _, rfl, by decide +kernel⟩, ⟨trivial, _, rfl, by decide⟩⟩

/-- A host's write of KEY, one of DIN, and a Reset. -/
theorem witness_KeyAndDinChangeOnlyByHostWrite :
    (∃ t, step { encFlight with host := [.txn 0xA0000000000000000], sched := [.host] } = .next t ∧
      t.arch.key ≠ encFlight.arch.key) ∧
    (∃ t, step { encFlight with host := [.txn 0xB8787878787878787], sched := [.host] } = .next t ∧
      t.arch.din ≠ encFlight.arch.din) ∧
    (∃ t, step { encFlight with sched := [.reset] } = .next t ∧ t.arch.key ≠ encFlight.arch.key ∧
      t.arch.din ≠ encFlight.arch.din) :=
  ⟨⟨_, rfl, by decide⟩, ⟨_, rfl, by decide⟩, ⟨_, rfl, by decide, by decide⟩⟩

/-- KV cleared by Reset, and set by the completion of KEYSCHED. -/
theorem witness_KeyValidSetAndClearedOnly :
    (∃ t, step { idleKeyed with sched := [.reset] } = .next t ∧ idleKeyed.arch.status.kv = true ∧
      t.arch.status.kv = false) ∧
    (∃ t, step { ksFlight with sched := [.engine] } = .next t ∧ ksFlight.arch.status.kv = false ∧
      t.arch.status.kv = true) :=
  ⟨⟨_, rfl, rfl, rfl⟩, ⟨_, rfl, rfl, rfl⟩⟩

/-- A completion; and KEYSCHED over an error, ENCRYPT and DECRYPT with a key, each leaving idle: PEND and BUSY change. -/
theorem witness_EveryStepIsOneEvent :
    (SeqInv ksCycle17 ∧ ∃ t, step ksCycle17 = .next t ∧ t.arch ≠ ksCycle17.arch) ∧
    (SeqInv noKey ∧ ∃ t, step { noKey with host := [.txn 0x80000000000000001], sched := [.host] } = .next t ∧
      noKey.arch.pend = .none ∧ t.arch.pend ≠ .none ∧ t.arch.status.busy = true) ∧
    (∃ t, step { idleKeyed with host := [.txn 0x80000000000000002], sched := [.host] } = .next t ∧
      t.arch.pend ≠ .none ∧ t.arch.status.busy = true) ∧
    ∃ t, step { idleKeyed with host := [.txn 0x80000000000000003] } = .next t ∧
      t.arch.pend ≠ .none ∧ t.arch.status.busy = true :=
  ⟨⟨ksCycle17_seqInv, _, rfl, by decide +kernel⟩, ⟨trivial, _, rfl, rfl, by decide, by decide⟩,
    ⟨_, rfl, by decide, by decide⟩, ⟨_, rfl, by decide, by decide⟩⟩

theorem witness_ResetEventAborts : ({ encFlight with sched := [.reset] } : State).sched = .reset :: [] := rfl

theorem witness_CommandsAfterReset :
    State.reset.arch = Arch.reset zeroSchedule ∧ (0x4 : Block64) ≠ 0x1 ∧ (0x4 : Block64) ≠ 0x2 ∧
      (0x4 : Block64) ≠ 0x3 := ⟨rfl, by decide, by decide, by decide⟩

theorem encFlight_inv : encFlight.arch.Inv where
  busy_iff := by decide
  err_iff := by decide
  err_idle := by decide
  done_idle := by decide
  ecode_legal := by decide
  reserved_zero := fun i hi => by
    simp only [Arch.read, Status.word, BitVec.getLsbD_setWidth]
    rw [BitVec.getLsbD_of_ge _ i hi, Bool.and_false]
  block_has_key := fun _ _ _ => rfl

theorem ksFlight_inv : ksFlight.arch.Inv where
  busy_iff := by decide
  err_iff := by decide
  err_idle := by decide
  done_idle := by decide
  ecode_legal := by decide
  reserved_zero := fun i hi => by
    simp only [Arch.read, Status.word, BitVec.getLsbD_setWidth]
    rw [BitVec.getLsbD_of_ge _ i hi, Bool.and_false]
  block_has_key := fun _ _ h => nomatch h

theorem witness_StatusInvariantsKept :
    ksFlight.arch.Inv ∧ ∃ t, step { ksFlight with sched := [.engine] } = .next t ∧ t.arch ≠ ksFlight.arch :=
  ⟨ksFlight_inv, _, rfl, fun h => absurd (congrArg (fun a => a.pend) h) (by decide)⟩

theorem witness_ListedStatusValuesKept :
    encFlight.arch.Inv ∧ encFlight.arch.status.word ∈ statusValues ∧
    ∃ t, step { encFlight with host := [.txn 0x80000000000000001], sched := [.host] } = .next t ∧
      t.arch.status.word = 0x103 :=
  ⟨encFlight_inv, by decide, _, rfl, by decide⟩

theorem witness_ReachableStatusValues :
    (∃ s, Reachable s ∧ s.arch.status.word = 0x0) ∧ (0x0 : Block64) ∈ statusValues :=
  ⟨⟨State.reset, Reachable.start [] [], by decide⟩, by decide⟩

/-- The invariant at its boundaries: before the load cycle, and before the last cycle of each operation. -/
theorem witness_SequencerInvariantKept :
    (SeqInv ksEngine ∧ ∃ t, step { ksEngine with sched := [.cycle] } = .next t ∧ t.work.rnd = 1) ∧
    (SeqInv ksCycle17 ∧ ∃ t, step ksCycle17 = .next t) ∧ (SeqInv blkCycle18 ∧ ∃ t, step blkCycle18 = .next t) :=
  ⟨⟨ksEngine_seqInv, _, rfl, rfl⟩, ⟨ksCycle17_seqInv, _, rfl⟩, ⟨blkCycle18_seqInv, _, rfl⟩⟩

theorem idleKeyed_keyValid : idleKeyed.arch.KeyValid := fun _ => ⟨0x0101010101010101, by decide +kernel⟩

theorem witness_KeyValidMeansDerivedKept :
    SeqInv ksCycle17 ∧ ksCycle17.arch.KeyValid ∧ ∃ t, step ksCycle17 = .next t ∧ t.arch.status.kv = true :=
  ⟨ksCycle17_seqInv, fun h => absurd h (by decide), _, rfl, rfl⟩

theorem witness_SequencerRefinesComplete :
    (SeqInv ksEngine ∧ ({ ksEngine with sched := [.cycle] } : State).sched = .cycle :: []) ∧
    (SeqInv ksCycle17 ∧ ksCycle17.sched = .cycle :: []) ∧ (SeqInv blkCycle18 ∧ blkCycle18.sched = .cycle :: []) :=
  ⟨⟨ksEngine_seqInv, rfl⟩, ⟨ksCycle17_seqInv, rfl⟩, ⟨blkCycle18_seqInv, rfl⟩⟩

theorem witness_SequencerLatency :
    (encFlight.work.rnd = 0 ∧ encFlight.arch.pend = .blk .enc 0x0123456789ABCDEF) ∧
    (ksFlight.work.rnd = 0 ∧ ksFlight.arch.pend = .ks 0x133457799BBCDFF1) ∧ 17 < 18 ∧ 16 < 17 := by decide

theorem witness_OperationInFlightEnds :
    encFlight.arch.Inv ∧ encFlight.arch.pend ≠ .none ∧
      ∀ turn ∈ [Turn.host, .cycle, .uop 0x60, .engine], turnDefined turn = true :=
  ⟨encFlight_inv, by decide, by decide⟩

theorem witness_PollEnds :
    ksFlight.arch.Inv ∧ ({ ksFlight with host := [.poll], sched := [.host, .cycle] } : State).host = .poll :: [] ∧
      ∀ turn ∈ [Turn.host, .cycle], turnDefined turn = true :=
  ⟨ksFlight_inv, rfl, by decide⟩

theorem witness_EveryHostProgramEnds :
    encFlight.arch.Inv ∧ ∀ turn ∈ [Turn.uop 0x00, .reset, .host], turnDefined turn = true :=
  ⟨encFlight_inv, by decide⟩

theorem witness_RoundInvertible :
    ((0xF0AAF0AA, 0xEF4A6544) : HalfBlock32 × HalfBlock32) = roundPair 0xCC00CCFF 0xF0AAF0AA 0x1B02EFFC7072 := by
  decide +kernel

/-- KS-3's pair of keys. -/
theorem witness_ParityBitsIgnored :
    (0x0101010101010101 : MasterKey64) &&& 0xFEFEFEFEFEFEFEFE = 0 ∧
      (0x133457799BBCDFF1 : MasterKey64) ^^^ 0x0101010101010101 = 0x123556789ABDDEF0 := by decide

/-- Two values that differ exactly in the omitted position 9. -/
theorem witness_RoundKeyHalvesSeparate :
    (∀ p, 1 ≤ p → p ≤ 56 → p ∉ [9, 18, 22, 25, 35, 38, 43, 54] →
      fbit (0x0 : Key56) p = fbit (0x00800000000000 : Key56) p) ∧
    fbit (0x0 : Key56) 9 ≠ fbit (0x00800000000000 : Key56) 9 := by
  constructor
  · intro p h1 h2
    interval_cases p <;> decide
  · decide

theorem witness_WeakKeysCharacterised :
    (∀ r r' : Fin 16, zeroSchedule[r] = zeroSchedule[r']) ∧ (halvesAfter 0x1F1F1F1F0E0E0E0E 0).1 = 0 ∧
      (halvesAfter 0x1F1F1F1F0E0E0E0E 0).2 = 0xFFFFFFF := by decide +kernel

theorem witness_SboxRowsArePermutations :
    sboxTables[(0 : Fin 8)][(0 : Fin 4)][(15 : Fin 16)] = 7 ∧ sboxTables[(7 : Fin 8)][(3 : Fin 4)][(15 : Fin 16)] = 11 := by
  decide

theorem witness_OnlyWellFormedTablesAdmitted :
    powerOn hardwareTables ≠ .fault .malformedTable ∧
      powerOn { hardwareTables with ip := Vector.replicate 64 65 } ≠ .next State.reset :=
  ⟨nofun, nofun⟩

theorem witness_MultiplexerIgnoresHighBits :
    (0xFFFFFFFFF0AAF0AA : Block64).extractLsb' 0 32 = (0x00000000F0AAF0AA : Block64).extractLsb' 0 32 ∧
      (0xFF00000000000000 : Block64).extractLsb' 0 56 = (0x0 : Block64).extractLsb' 0 56 := by decide

/-- SBOX.1 and SBOX.8, the two ends of the S-layer, on SB-2's mixed value. -/
theorem witness_SboxMicroOpsDriveTheirLane :
    let x : RoundKey48 := 0x6117BA866527
    (((0 : Fin 4).val = 2 * (x.getLsbD (47 - 6 * (0 : Fin 8).val)).toNat + (x.getLsbD (42 - 6 * (0 : Fin 8).val)).toNat ∧
      (12 : Fin 16).val = (x.extractLsb' (43 - 6 * (0 : Fin 8).val) 4).toNat) ∧ (27 < 28 ∧ 32 ≤ 32)) ∧
    (((3 : Fin 4).val = 2 * (x.getLsbD (47 - 6 * (7 : Fin 8).val)).toNat + (x.getLsbD (42 - 6 * (7 : Fin 8).val)).toNat ∧
      (3 : Fin 16).val = (x.extractLsb' (43 - 6 * (7 : Fin 8).val) 4).toNat) ∧ 32 - 4 * (7 : Fin 8).val ≤ 4) := by
  decide

theorem witness_MicroOpsWriteOnlyTheDatapath : decode (.uop8 0x60) = .ok .round := by decide

theorem witness_LanesMakeTheFFunction :
    ({ State.reset with dp := { Datapath.reset with r := 0xF0AAF0AA, e := 0x7A15557A1555, k := 0x1B02EFFC7072 } } :
      State).dp.e = expand 0xF0AAF0AA := by decide +kernel

theorem witness_DecodeOfEncode :
    ∀ i ∈ [Instr.wrCmd 0x0, .wrCmd 0x4, .rdR7 0xFFFFFFFFFFFFFFFF, .keysched, .round], i.wf = true := by decide

theorem witness_EncodeOfDecode :
    decode (.host68 0xFFFFFFFFFFFFFFFFF) = .ok (.wrR7 0xFFFFFFFFFFFFFFFF) ∧ decode (.uop8 0x28) = .ok .sbox8 := by
  decide

/-- Boundary select words of each clause, on both sides. -/
theorem witness_ReservedAndIllegalWords :
    decode (.uop8 0x06) = .error (.reservedSelect 0x06) ∧ decode (.uop8 0x05) = .ok .permPc2 ∧
    decode (.uop8 0x13) = .error (.reservedSelect 0x13) ∧ decode (.uop8 0x12) = .ok .rotl28By2 ∧
    decode (.uop8 0x29) = .error (.reservedSelect 0x29) ∧ decode (.uop8 0x28) = .ok .sbox8 ∧
    decode (.uop8 0x61) = .error (.reservedSelect 0x61) ∧ decode (.uop8 0x60) = .ok .round ∧
    decode (.uop8 0xFF) = .error (.reservedSelect 0xFF) ∧ decodeCmd 0x4 = .illegal := by decide

theorem witness_OnlyReservedSelectsAreRefused :
    (∃ t, step { State.reset with sched := [.uop 0x00] } = .next t) ∧
      step { State.reset with sched := [.uop 0xFF] } = .refused (.reservedSelect 0xFF) := ⟨⟨_, rfl⟩, rfl⟩

/-- The hypotheses of each clause. -/
theorem witness_StepRunsTheDecodedInstruction :
    ({ idleKeyed with host := [.txn 0x80000000000000002], sched := [.host] } : State).sched = .host :: [] ∧
    decode (.host68 0x80000000000000002) = .ok .encrypt ∧
    (idleKeyed.sched = [] ∧ idleKeyed.arch.pend = .none) ∧
    decode (.uop8 0x30) = .ok .xor48 ∧
    decodeTableWord 72 0x80000000000000002 = some .encrypt ∧ decodeTableWord 8 0x30 = some .xor48 := by decide

end Sys2Proof.Tests
end

section
/-! PROOFS. The command decode function (R111) and the reserved select words (R105). -/

namespace Sys2Proof.Proofs.Encoding

/-- The two fields of R105 read back from the word they make. -/
@[simp] theorem uopUnit_append (unit sel : BitVec 4) : uopUnit (unit ++ sel) = unit :=
  BitVec.extractLsb'_append_eq_left

@[simp] theorem uopSel_append (unit sel : BitVec 4) : uopSel (unit ++ sel) = sel :=
  BitVec.extractLsb'_append_eq_right

/-- The fields UNIT and SEL, as numbers, of the select words the table of R105 leaves out. -/
def ReservedFields (unit sel : Nat) : Prop :=
  (unit = 0 ∧ 6 ≤ sel) ∨ (unit = 1 ∧ (sel = 0 ∨ 3 ≤ sel)) ∨ (unit = 2 ∧ (sel = 0 ∨ 9 ≤ sel)) ∨
  (3 ≤ unit ∧ unit ≤ 6 ∧ sel ≠ 0) ∨ 7 ≤ unit

/-- The fields that are not reserved are those of the table's rows. -/
theorem row_of_not_reservedFields {unit sel : Nat} (h : ¬ ReservedFields unit sel) :
    (unit = 0 ∧ sel < 6) ∨ (unit = 1 ∧ 1 ≤ sel ∧ sel < 3) ∨ (unit = 2 ∧ 1 ≤ sel ∧ sel < 9) ∨
    (sel = 0 ∧ 3 ≤ unit ∧ unit < 7) := by
  unfold ReservedFields at h
  omega

/-- A row of the table answers an instruction, and its fields are not reserved. The last arm refuses; were its fields
not reserved, one of the rows above it would have matched. -/
theorem decodeUop_eq_error_iff (u : Select8) :
    decodeUop u = .error (.reservedSelect u) ↔ ReservedFields (uopUnit u).toNat (uopSel u).toNat := by
  unfold decodeUop
  split
  case h_21 =>
    refine iff_of_true rfl (by_contra fun hrow => ?_)
    obtain ⟨h, hsel⟩ | ⟨h, hsel⟩ | ⟨h, hsel⟩ | ⟨h, hunit⟩ := row_of_not_reservedFields hrow
    all_goals
      simp [h] at *
      omega
  all_goals simp [ReservedFields, *]

/-- What a command word decodes to, by its value (R111). -/
theorem decodeCmd_cases (v : Block64) :
    (v = 0x1 ∧ decodeCmd v = .keysched) ∨ (v = 0x2 ∧ decodeCmd v = .encrypt) ∨
    (v = 0x3 ∧ decodeCmd v = .decrypt) ∨ ((v ≠ 0x1 ∧ v ≠ 0x2 ∧ v ≠ 0x3) ∧ decodeCmd v = .illegal) := by
  unfold decodeCmd
  split_ifs with h1 h2 h3
  · exact .inl ⟨h1, rfl⟩
  · exact .inr (.inl ⟨h2, rfl⟩)
  · exact .inr (.inr (.inl ⟨h3, rfl⟩))
  · exact .inr (.inr (.inr ⟨⟨h1, h2, h3⟩, rfl⟩))

/-- Settles O57: the refused words by the rows of R105's table, the command words by the cases of R111. -/
theorem reservedAndIllegalWords : Obligations.ReservedAndIllegalWords := by
  refine ⟨fun unit sel => ?_, fun v => ?_⟩
  · have h := decodeUop_eq_error_iff (unit ++ sel)
    simpa [ReservedFields, decode, ← BitVec.toNat_inj] using h
  · obtain ⟨rfl, h⟩ | ⟨rfl, h⟩ | ⟨rfl, h⟩ | ⟨⟨h1, h2, h3⟩, h⟩ := decodeCmd_cases v
    · rw [h]; decide
    · rw [h]; decide
    · rw [h]; decide
    · simp only [h, h1, h2, h3, ne_eq, reduceCtorEq, not_false_eq_true, and_self]

end Sys2Proof.Proofs.Encoding
end

section
/-! PROOFS. The permutation mechanism in FIPS positions (R130). -/

namespace Sys2Proof.Proofs.BitPermutation

open Sys2Proof.Machine

/-- FIPS position `p + 1` is slice bit `wout - (p + 1)`, so the table is read back at `p`. -/
theorem fbit_permute {win wout : Nat} (t : Vector Nat wout) (x : BitVec win) {p : Nat} (hp : p < wout) :
    fbit (permute t x) (p + 1) = fbit x t[p] := by
  have hidx : wout - 1 - (wout - (p + 1)) = p := by omega
  calc fbit (permute t x) (p + 1)
      = fbit x (t[wout - 1 - (wout - (p + 1))]'(by omega)) := getLsbD_permute t x _ (by omega)
    _ = fbit x t[p] := by simp only [hidx]

/-- Settles O46: the slice-bit law of Permute, read in FIPS positions. -/
theorem permuteCopiesNamedPosition : Obligations.PermuteCopiesNamedPosition :=
  fun _ _ t x p => fbit_permute t x p.isLt

end Sys2Proof.Proofs.BitPermutation
end

section
/-! PROOFS. What a cycle of the reference sequencer does to the architectural state (R238). -/

namespace Sys2Proof.Proofs.Sequencer

open Sys2Proof.Machine

/-- A cycle is silent, publishes the shadow schedule after its sixteenth round, or commits the permuted pair after the
block's rounds. -/
theorem seqCycle_arch_cases (s : State) :
    (seqCycle s).arch = s.arch ∨
    (∃ k, s.arch.pend = .ks k ∧ s.work.rnd.toNat = 16 ∧
      (seqCycle s).arch = s.arch.finishKey (seqKeyRound s).work.rks) ∨
    (∃ dir b, s.arch.pend = .blk dir b ∧ s.work.rnd.toNat = 17 ∧
      (seqCycle s).arch = s.arch.finishBlock (joinBlock (s.work.wl, s.work.wr))) := by
  rcases hp : s.arch.pend with _ | k | ⟨dir, b⟩ <;> simp only [seqCycle, hp]
  case none => exact .inl trivial
  case ks =>
    split_ifs with h0 hlt h16
    · exact .inl rfl
    · exact .inl rfl
    · exact .inr (.inl ⟨k, rfl, h16, rfl⟩)
    · exact .inl rfl
  case blk =>
    split_ifs with h0 hle h17
    · exact .inl rfl
    · exact .inl rfl
    · exact .inr (.inr ⟨dir, b, rfl, h17, rfl⟩)
    · exact .inl rfl

/-- What SeqInv says while KEYSCHED is in flight. -/
theorem seqInv_ks_iff {s : State} {k : MasterKey64} (hp : s.arch.pend = .ks k) :
    SeqInv s ↔ s.work.rnd.toNat ≤ 16 ∧
      (1 ≤ s.work.rnd.toNat →
        (s.work.wc, s.work.wd) = halvesAfter k (s.work.rnd.toNat - 1) ∧
          ∀ r, 1 ≤ r → r < s.work.rnd.toNat → rkAt s.work.rks r = rkAt (deriveRoundKeys k) r) := by
  simp only [SeqInv, hp]

end Sys2Proof.Proofs.Sequencer
end

section
/-! PROOFS. The round-key store: its entries, what the sequencer's rounds leave in the shadow schedule, and that RK is
replaced only whole (R43, R165, R171). -/

namespace Sys2Proof.Proofs.KeySchedule

open Sys2Proof.Machine Sys2Proof.Proofs.Sequencer

/-! ### Entries of a store -/

/-- A store is its sixteen entries (R43). -/
theorem schedule_eq_of_rkAt {a b : Schedule} (h : ∀ r, 1 ≤ r → r ≤ 16 → rkAt a r = rkAt b r) : a = b := by
  refine Vector.ext fun i hi => ?_
  simpa [rkAt, hi] using h (i + 1) (by omega) (by omega)

/-- Entry `r` of the derived schedule is the round key of the halves after round `r` (R165). -/
theorem rkAt_deriveRoundKeys (k : MasterKey64) {r : Nat} (h1 : 1 ≤ r) (h16 : r ≤ 16) :
    rkAt (deriveRoundKeys k) r = roundKeyOf (halvesAfter k r) := by
  have hidx : r - 1 < 16 := by omega
  simp [rkAt, deriveRoundKeys, hidx, Nat.sub_add_cancel h1]

/-- Writing entry `r` is read back at `r`. -/
theorem rkAt_set_same (rk : Schedule) (v : RoundKey48) {r : Nat} (h1 : 1 ≤ r) (h16 : r ≤ 16) :
    rkAt (rk.setIfInBounds (r - 1) v) r = v := by
  have hidx : r - 1 < 16 := by omega
  simp [rkAt, hidx]

/-- Writing entry `r` leaves every other entry. -/
theorem rkAt_set_of_ne (rk : Schedule) (v : RoundKey48) {q r : Nat} (hq : 1 ≤ q) (hr : 1 ≤ r) (hne : q ≠ r) :
    rkAt (rk.setIfInBounds (r - 1) v) q = rkAt rk q := by
  have hidx : r - 1 ≠ q - 1 := by omega
  simp [rkAt, hidx]

/-! ### One round of the sequencer's key schedule -/

/-- Round `n + 1` rotates both halves as R163 says. -/
theorem seqKeyRound_halves {s : State} {k : MasterKey64} {n : Nat} (hn : s.work.rnd.toNat = n + 1)
    (hcd : (s.work.wc, s.work.wd) = halvesAfter k n) :
    ((seqKeyRound s).work.wc, (seqKeyRound s).work.wd) = halvesAfter k (n + 1) := by
  simp [seqKeyRound, Datapath.rotl, Datapath.perm, halvesAfter, ← hcd, hn]

/-- The round writes the round key of its rotated halves into RKS[RND] (R164). -/
theorem seqKeyRound_rks (s : State) :
    (seqKeyRound s).work.rks = s.work.rks.setIfInBounds (s.work.rnd.toNat - 1)
      (roundKeyOf ((seqKeyRound s).work.wc, (seqKeyRound s).work.wd)) := by
  simp [seqKeyRound, Datapath.rotl, Datapath.perm, permux, roundKeyOf]

/-- After round `RND` the shadow schedule holds the derived entries `1..RND`. -/
theorem rkAt_seqKeyRound {s : State} {k : MasterKey64} (hp : s.arch.pend = .ks k) (hinv : SeqInv s)
    (hrnd : 1 ≤ s.work.rnd.toNat) {q : Nat} (h1 : 1 ≤ q) (hq : q ≤ s.work.rnd.toNat) :
    rkAt (seqKeyRound s).work.rks q = rkAt (deriveRoundKeys k) q := by
  obtain ⟨h16, hwork⟩ := (seqInv_ks_iff hp).mp hinv
  obtain ⟨hcd, hrks⟩ := hwork hrnd
  rw [seqKeyRound_rks]
  rcases hq.lt_or_eq with hlt | rfl
  · rw [rkAt_set_of_ne _ _ h1 hrnd hlt.ne, hrks q h1 hlt]
  · rw [rkAt_set_same _ _ hrnd h16, seqKeyRound_halves (Nat.sub_add_cancel hrnd).symm hcd, Nat.sub_add_cancel hrnd,
      rkAt_deriveRoundKeys k hrnd h16]

/-- After the sixteenth round the shadow schedule is the whole derived schedule. -/
theorem seqKeyRound_rks_eq_derived {s : State} {k : MasterKey64} (hp : s.arch.pend = .ks k) (hinv : SeqInv s)
    (hrnd : s.work.rnd.toNat = 16) : (seqKeyRound s).work.rks = deriveRoundKeys k :=
  schedule_eq_of_rkAt fun _ h1 h16 => rkAt_seqKeyRound hp hinv (by omega) h1 (by omega)

/-! ### What changes RK -/

/-- No host write touches the store: it is not in the register index space (R43). -/
@[simp] theorem hostWrite_rk (idx : RegIdx) (v : Block64) (s : State) : (hostWrite idx v s).arch.rk = s.arch.rk := by
  cases idx
  case cmd =>
    obtain ⟨-, h⟩ | ⟨-, -, h⟩ | ⟨-, -, h⟩ | ⟨-, h⟩ | ⟨-, -, dir, h⟩ := cmdWrite_cases v s <;> simp [hostWrite, h]
  all_goals rfl

/-- Complete changes RK only by publishing the derived schedule (R170, R241). -/
theorem pend_ks_of_complete_rk_ne {a : Arch} (h : a.complete.rk ≠ a.rk) :
    ∃ k, a.pend = .ks k ∧ a.complete = a.finishKey (deriveRoundKeys k) := by
  rcases hp : a.pend with _ | k | ⟨dir, b⟩
  · exact absurd (congrArg Arch.rk (complete_of_none hp)) h
  · exact ⟨k, rfl, complete_of_ks hp⟩
  · exact absurd (congrArg Arch.rk (complete_of_blk hp)) h

/-- A cycle of the sequencer changes RK only as Complete does. -/
theorem pend_ks_of_seqCycle_rk_ne {s : State} (hinv : SeqInv s) (h : (seqCycle s).arch.rk ≠ s.arch.rk) :
    ∃ k, s.arch.pend = .ks k ∧ (seqCycle s).arch = s.arch.finishKey (deriveRoundKeys k) := by
  obtain he | ⟨k, hp, hrnd, he⟩ | ⟨dir, b, -, -, he⟩ := seqCycle_arch_cases s
  · exact absurd (congrArg Arch.rk he) h
  · exact ⟨k, hp, seqKeyRound_rks_eq_derived hp hinv hrnd ▸ he⟩
  · exact absurd (congrArg Arch.rk he) h

/-- Each way a step can change RK publishes the whole derived schedule, or is Reset. -/
theorem rk_ne_cases {s t : State} (hinv : SeqInv s) (hstep : step s = .next t) (hne : t.arch.rk ≠ s.arch.rk) :
    (∃ k, s.arch.pend = .ks k ∧ t.arch = s.arch.finishKey (deriveRoundKeys k)) ∨
    (∃ rest, s.sched = .reset :: rest ∧ t = resetEvent { s with sched := rest }) := by
  cases step_cases hstep with
  | idle => exact absurd rfl hne
  | read => exact absurd rfl hne
  | write sched host w => exact absurd (hostWrite_rk _ _ _) hne
  | complete => exact .inl (pend_ks_of_complete_rk_ne hne)
  | cycle sched => exact .inl (pend_ks_of_seqCycle_rk_ne (s := { s with sched := sched }) hinv hne)
  | reset sched hs => exact .inr ⟨sched, hs, rfl⟩
  | uop => exact absurd rfl hne

/-- Settles O15: of the events a step can be, only the completion of KEYSCHED, atomic or by the sequencer's last cycle,
and Reset write RK. -/
theorem schedulePublishedWhole : Obligations.SchedulePublishedWhole := by
  intro s t hinv hstep hne
  obtain ⟨k, hp, ht⟩ | ⟨rest, hs, rfl⟩ := rk_ne_cases hinv hstep hne
  · rw [ht]
    exact .inl ⟨k, hp, rfl, rfl, rfl, rfl, rfl⟩
  · exact .inr ⟨⟨rest, hs⟩, rfl⟩

end Sys2Proof.Proofs.KeySchedule
end

section
/-! PROOFS. What the completion of an operation reads (R242, R270). -/

namespace Sys2Proof.Proofs.Completion

open Sys2Proof.Machine

/-- The Engine's turn is Complete and nothing else (R270). -/
theorem step_of_engine {s : State} {rest : List Turn} (h : s.sched = .engine :: rest) :
    step s = .next (complete { s with sched := rest }) := by simp only [step, fetch, h]

/-- The completed RK reads PEND and RK alone. -/
theorem complete_rk_congr {a b : Arch} (hpend : a.pend = b.pend) (hrk : a.rk = b.rk) :
    a.complete.rk = b.complete.rk := by
  rcases hp : a.pend with _ | k | ⟨dir, x⟩
  · rw [complete_of_none hp, complete_of_none (hpend ▸ hp), hrk]
  · rw [complete_of_ks hp, complete_of_ks (hpend ▸ hp), Arch.finishKey_rk, Arch.finishKey_rk]
  · rw [complete_of_blk hp, complete_of_blk (hpend ▸ hp), Arch.finishBlock_rk, Arch.finishBlock_rk, hrk]

/-- The committed block reads the snapshot in PEND and RK alone. -/
theorem complete_dout_congr {a b : Arch} {dir : Dir} {x : Block64} (hp : a.pend = .blk dir x)
    (hpend : a.pend = b.pend) (hrk : a.rk = b.rk) : a.complete.dout = b.complete.dout := by
  rw [complete_of_blk hp, complete_of_blk (hpend ▸ hp), Arch.finishBlock_dout, Arch.finishBlock_dout, hrk]

/-- Settles O14: both steps are Complete, whose RK and block result are functions of PEND and RK. -/
theorem resultsReadOnlySnapshotAndKeys : Obligations.ResultsReadOnlySnapshotAndKeys := by
  intro s t s' t' rs rt hs ht hpend hrk hstep hstep'
  cases (step_of_engine hs).symm.trans hstep
  cases (step_of_engine ht).symm.trans hstep'
  exact ⟨complete_rk_congr hpend hrk, fun ⟨_, _, hp⟩ => complete_dout_congr hp hpend hrk⟩

end Sys2Proof.Proofs.Completion
end

section
/-! PROOFS. The sixteen rounds as a loop over the round keys (R231, R232, R235, R236). -/

namespace Sys2Proof.Proofs.BlockTransformation

open Sys2Proof.Machine

/-- The keys of rounds `1..n`, in the order the rounds use them (R231). -/
def keysUsed (dir : Dir) (rk : Schedule) (n : Nat) : List RoundKey48 :=
  (List.range n).map fun i => keyFor dir rk (i + 1)

/-- Round `n + 1` uses one more key, after the others. -/
theorem keysUsed_succ (dir : Dir) (rk : Schedule) (n : Nat) :
    keysUsed dir rk (n + 1) = keysUsed dir rk n ++ [keyFor dir rk (n + 1)] := by
  simp [keysUsed, List.range_succ]

/-- The pair after round `n` is the fold of Round over the keys used. -/
theorem roundsAfter_eq_foldl (dir : Dir) (rk : Schedule) (b : Block64) (n : Nat) :
    roundsAfter dir rk b n =
      (keysUsed dir rk n).foldl (fun lr k => roundPair lr.1 lr.2 k) (splitBlock b) := by
  induction n with
  | zero => rfl
  | succ n ih => rw [keysUsed_succ, List.foldl_append, ← ih]; rfl

/-- Encryption uses the store in its own order. -/
theorem keysUsed_enc (rk : Schedule) : keysUsed .enc rk 16 = rk.toList := by
  refine List.ext_getElem (by simp [keysUsed]) fun i _ hlen => ?_
  have hi : i < 16 := by simpa using hlen
  simp [keysUsed, keyFor, rkAt, hi]

/-- Decryption uses the store in reverse order (R236): round `i + 1` reads `RK[16 - i]`. -/
theorem keysUsed_dec (rk : Schedule) : keysUsed .dec rk 16 = rk.toList.reverse := by
  refine List.ext_getElem (by simp [keysUsed]) fun i _ hlen => ?_
  have hi : i < 16 := by simpa using hlen
  have hidx : 16 - i - 1 = 15 - i := by omega
  have hlt : 15 - i < 16 := by omega
  simp [keysUsed, keyFor, rkAt, hidx, hlt]

/-- Settles O34: the rounds are a fold over the keys used, which are the store forward or reversed. -/
theorem blockTransformationAsWritten : Obligations.BlockTransformationAsWritten := by
  refine fun b rk => ⟨?_, ?_⟩
  · rw [encryptBlock, cipherBlock, roundsAfter_eq_foldl, keysUsed_enc]; rfl
  · rw [decryptBlock, cipherBlock, roundsAfter_eq_foldl, keysUsed_dec]; rfl

end Sys2Proof.Proofs.BlockTransformation
end

section
/-! PROOFS. The host's register transactions, by the register they name (R260, R261, R265 to R267). -/

namespace Sys2Proof.Proofs.HostInterface

open Sys2Proof.Machine Sys2Proof.Proofs.Encoding

/-- A read transaction is HostRead of its register, whatever its DATA field holds (R100, R260). -/
theorem exec_readInstr (idx : RegIdx) (data : Block64) (s : State) :
    exec (readInstr idx data) s = .next (hostRead idx s) := by
  cases idx <;> rfl

/-- A write transaction is HostWrite of its register (R261). A legal command word is spelt as its command (R102), which
is the same write of CMD. -/
theorem exec_writeInstr (idx : RegIdx) (v : Block64) (s : State) :
    exec (writeInstr idx v) s = .next (hostWrite idx v s) := by
  cases idx
  case cmd =>
    obtain ⟨rfl, -⟩ | ⟨rfl, -⟩ | ⟨rfl, -⟩ | ⟨-, hillegal⟩ := decodeCmd_cases v
    · rfl
    · rfl
    · rfl
    · simp only [writeInstr, cmdInstr, hillegal]; rfl
  all_goals rfl

/-- CMD, KEY and DIN are the only registers a write reaches (R265, R266). -/
theorem hostWrite_eq_self {idx : RegIdx} (h : idx ∉ [RegIdx.cmd, .key, .din]) (v : Block64) (s : State) :
    hostWrite idx v s = s := by
  cases idx
  case cmd | key | din => simp at h
  all_goals rfl

/-- A write of any other register is ignored. -/
theorem exec_writeInstr_ignored {idx : RegIdx} (h : idx ∉ [RegIdx.cmd, .key, .din]) (v : Block64) (s : State) :
    exec (writeInstr idx v) s = .next s := by rw [exec_writeInstr, hostWrite_eq_self h]

/-- Settles O1: each read is HostRead of its register. -/
theorem readsReturnTheRegister : Obligations.ReadsReturnTheRegister := fun d s =>
  ⟨exec_readInstr .cmd d s, exec_readInstr .status d s, exec_readInstr .key d s, exec_readInstr .din d s,
    exec_readInstr .dout d s, exec_readInstr .r5 d s, exec_readInstr .r6 d s, exec_readInstr .r7 d s⟩

/-- Settles O3: HostWrite of KEY and of DIN, which no branch on BUSY guards. -/
theorem keyAndDinWrites : Obligations.KeyAndDinWrites := fun v s =>
  ⟨exec_writeInstr .key v s, exec_writeInstr .din v s⟩

/-- Settles O4: STATUS and DOUT are registers no write reaches. -/
theorem statusAndDoutWritesIgnored : Obligations.StatusAndDoutWritesIgnored := fun v s =>
  ⟨exec_writeInstr_ignored (idx := .status) (by decide) v s, exec_writeInstr_ignored (idx := .dout) (by decide) v s⟩

/-- Settles O5: the reads are three of O1's, and no write reaches a reserved slot. -/
theorem reservedSlotsReadZeroIgnoreWrites : Obligations.ReservedSlotsReadZeroIgnoreWrites := by
  intro v s
  obtain ⟨-, -, -, -, -, hr5, hr6, hr7⟩ := readsReturnTheRegister v s
  exact ⟨hr5, hr6, hr7, exec_writeInstr_ignored (idx := .r5) (by decide) v s,
    exec_writeInstr_ignored (idx := .r6) (by decide) v s, exec_writeInstr_ignored (idx := .r7) (by decide) v s⟩

end Sys2Proof.Proofs.HostInterface
end

section
/-! PROOFS. Writes of CMD that are dropped, rejected or accepted (R239, R240, R263, R303 to R309). -/

namespace Sys2Proof.Proofs.Exceptions

open Sys2Proof.Machine Sys2Proof.Proofs.Encoding Sys2Proof.Proofs.Sequencer

/-! ### A write of CMD -/

/-- Every spelling of a CMD write is CmdWrite of one word, in every state (R102, R263). -/
theorem exec_eq_cmdWrite {i : Instr} {v : Block64} (h : i = .wrCmd v ∨ i = .keysched ∨ i = .encrypt ∨ i = .decrypt) :
    ∃ w, ∀ s, exec i s = .next (cmdWrite w s) := by
  obtain rfl | rfl | rfl | rfl := h <;> exact ⟨_, fun _ => rfl⟩

theorem cmdWrite_of_busy {s : State} (v : Block64) (hbusy : s.arch.status.busy = true) : cmdWrite v s = dropCmd s :=
  if_pos hbusy

theorem cmdWrite_of_idle {s : State} (v : Block64) (hidle : s.arch.status.busy = false) :
    cmdWrite v s = dispatchCmd (decodeCmd v) (acceptCmd s) :=
  if_neg (by simp [hidle])

/-! ### OVR (R41, R306) -/

/-- Complete neither reads nor writes OVR (R170, R241). -/
theorem complete_overrun (a : Arch) :
    ({ a with status := a.status.overrun } : Arch).complete =
      { a.complete with status := a.complete.status.overrun } := by
  rcases hp : a.pend with _ | k | ⟨dir, b⟩ <;> simp only [Arch.complete, hp] <;> rfl

@[simp] theorem complete_ovr (a : Arch) : a.complete.status.ovr = a.status.ovr := by
  rcases hp : a.pend with _ | k | ⟨dir, b⟩ <;> simp [Arch.complete, hp]

@[simp] theorem seqCycle_ovr (s : State) : (seqCycle s).arch.status.ovr = s.arch.status.ovr := by
  obtain h | ⟨k, -, -, h⟩ | ⟨dir, b, -, -, h⟩ := seqCycle_arch_cases s <;> simp [h]

/-- A host write that clears OVR is an accepted write of CMD (R263). -/
theorem accepted_of_hostWrite_clears_ovr {idx : RegIdx} {v : Block64} {s : State} (hset : s.arch.status.ovr = true)
    (hclear : (hostWrite idx v s).arch.status.ovr = false) : idx = .cmd ∧ s.arch.status.busy = false := by
  cases idx
  case cmd =>
    refine ⟨rfl, Bool.eq_false_of_not_eq_true fun hbusy => ?_⟩
    simp [hostWrite, cmdWrite_of_busy v hbusy] at hclear
  all_goals exact absurd (hset.symm.trans hclear) (by decide)

/-- The record of a CMD write, field by field (R100, R101). -/
theorem txn_fields_of_cmd_write {w : Txn68} (hW : txnIsWrite w = true) (hidx : RegIdx.ofIndex (txnIndex w) = .cmd) :
    w.extractLsb' 67 1 = 1 ∧ w.extractLsb' 64 3 = 0 := by
  have hcmd : ∀ idx : BitVec 3, RegIdx.ofIndex idx = .cmd → idx = 0 := by decide
  refine ⟨BitVec.eq_of_getLsbD_eq fun j hj => ?_, hcmd _ hidx⟩
  obtain rfl : j = 0 := by omega
  simpa [txnIsWrite] using hW

/-- Of the events a step can be, Reset and an accepted CMD write alone clear OVR. -/
theorem ovr_cleared_cases {s t : State} (hstep : step s = .next t) (hset : s.arch.status.ovr = true)
    (hclear : t.arch.status.ovr = false) :
    (∃ rest, s.sched = .reset :: rest) ∨
    (s.arch.status.busy = false ∧
      ∃ w rest, s.host = .txn w :: rest ∧ w.extractLsb' 67 1 = 1 ∧ w.extractLsb' 64 3 = 0) := by
  have changed : t.arch.status.ovr ≠ s.arch.status.ovr := by simp [hset, hclear]
  cases step_cases hstep with
  | idle => exact absurd rfl changed
  | read => exact absurd rfl changed
  | write sched host w hw hW =>
    obtain ⟨hidx, hidle⟩ := accepted_of_hostWrite_clears_ovr (s := { s with sched := sched, host := host }) hset hclear
    exact .inr ⟨hidle, w, host, hw, txn_fields_of_cmd_write hW hidx⟩
  | complete => exact absurd (complete_ovr _) changed
  | cycle => exact absurd (seqCycle_ovr _) changed
  | reset sched hs => exact .inl ⟨sched, hs⟩
  | uop => exact absurd rfl changed

/-- Settles O6: a dropped write is DropCmd, which commutes with Complete; what clears OVR is read off the events of a
step. -/
theorem busyDropsCommands : Obligations.BusyDropsCommands := by
  refine ⟨fun v s i hbusy hi => ?_, fun s t => ovr_cleared_cases⟩
  obtain ⟨w, hexec⟩ := exec_eq_cmdWrite hi
  exact ⟨dropCmd s, by rw [hexec, cmdWrite_of_busy w hbusy], rfl, complete_overrun s.arch⟩

/-! ### Rejections (R303, R304, R305, R308) -/

/-- The state a rejection leaves: the code in STATUS, and nothing else changed (R303). -/
theorem cmdError_acceptCmd {s : State} (code : Nibble) (hidle : s.arch.status.busy = false) :
    cmdError code (acceptCmd s) =
      { s with
        arch :=
          { s.arch with
            status :=
              { busy := false, kv := s.arch.status.kv, done := false, err := true, ecode := code, ovr := false } } } := by
  simp [cmdError, acceptCmd, Status.rejected, Status.accepted, hidle]

/-- Acceptance forgets an earlier rejection: it is the return from the error (R309). -/
@[simp] theorem acceptCmd_cmdError_acceptCmd (code : Nibble) (s : State) :
    acceptCmd (cmdError code (acceptCmd s)) = acceptCmd s := rfl

/-- An accepted CMD write that leaves ERR = 1 was rejected. -/
theorem cmdWrite_eq_cmdError {s : State} {v : Block64} (hidle : s.arch.status.busy = false)
    (herr : (cmdWrite v s).arch.status.err = true) : ∃ code, cmdWrite v s = cmdError code (acceptCmd s) := by
  obtain ⟨hbusy, -⟩ | ⟨-, -, h⟩ | ⟨-, -, h⟩ | ⟨-, h⟩ | ⟨-, -, dir, h⟩ := cmdWrite_cases v s
  · simp [hidle] at hbusy
  · exact ⟨_, h⟩
  · exact ⟨_, h⟩
  all_goals simp [h] at herr

/-- Settles O10: the reissued command is accepted into the state the first one was, so it is dispatched alike. -/
theorem rejectedCommandRepeats : Obligations.RejectedCommandRepeats := by
  intro s t v i hidle hi hstep herr
  obtain ⟨w, hexec⟩ := exec_eq_cmdWrite hi
  cases (hexec s).symm.trans hstep
  obtain ⟨code, hcode⟩ := cmdWrite_eq_cmdError hidle herr
  have hidle' : (cmdWrite w s).arch.status.busy = false := by simp [hcode, hidle]
  have haccept : acceptCmd (cmdWrite w s) = acceptCmd s := by rw [hcode, acceptCmd_cmdError_acceptCmd]
  calc exec i (cmdWrite w s)
      = .next (dispatchCmd (decodeCmd w) (acceptCmd (cmdWrite w s))) := by rw [hexec, cmdWrite_of_idle w hidle']
    _ = .next (cmdWrite w s) := by rw [haccept, cmdWrite_of_idle w hidle]

/-- Settles O7: an illegal word is dispatched to the rejection with ILLEGAL_CMD. -/
theorem illegalCommandRecorded : Obligations.IllegalCommandRecorded := by
  intro v s hidle h1 h2 h3
  have hdecode : decodeCmd v = .illegal := by rw [decodeCmd, if_neg h1, if_neg h2, if_neg h3]
  calc exec (.wrCmd v) s
      = .next (dispatchCmd (decodeCmd v) (acceptCmd s)) := congrArg _ (cmdWrite_of_idle v hidle)
    _ = .next (cmdError Config.ecodeIllegalCmd (acceptCmd s)) := by rw [hdecode]; rfl
    _ = _ := congrArg _ (cmdError_acceptCmd _ hidle)

/-! ### ENCRYPT and DECRYPT (R239, R240) -/

theorem startBlock_of_kv {s : State} (dir : Dir) (hkv : s.arch.status.kv = true) :
    startBlock dir s = startOp (.blk dir s.arch.din) s :=
  if_neg (by simp [hkv])

theorem startBlock_of_noKey {s : State} (dir : Dir) (hkv : s.arch.status.kv = false) :
    startBlock dir s = cmdError Config.ecodeNoKey s :=
  if_pos hkv

/-- Either spelling of an accepted block command starts the block operation of its direction, or is rejected there. -/
theorem exec_blockCommand {s : State} {dir : Dir} {i : Instr} (hidle : s.arch.status.busy = false)
    (hi : (dir = .enc ∧ (i = .encrypt ∨ i = .wrCmd 0x2)) ∨ (dir = .dec ∧ (i = .decrypt ∨ i = .wrCmd 0x3))) :
    exec i s = .next (startBlock dir (acceptCmd s)) := by
  obtain ⟨rfl, rfl | rfl⟩ | ⟨rfl, rfl | rfl⟩ := hi <;> exact congrArg _ (cmdWrite_of_idle _ hidle)

/-- Outside the architectural state a start touches RND alone (R44; log entry 8). -/
theorem sameOutside_startOp (p : Pend) (s : State) : SameOutside s (startOp p s) :=
  ⟨rfl, rfl, rfl, rfl, rfl, 0, rfl⟩

/-- Settles O9: the block command is accepted, and KV decides whether it starts or is rejected. -/
theorem blockCommandsStartOrReject : Obligations.BlockCommandsStartOrReject := by
  refine fun s dir i hidle hi => ⟨fun hkv => ?_, fun hkv => ?_⟩
  · refine ⟨startOp (.blk dir s.arch.din) (acceptCmd s), ?_, sameOutside_startOp _ (acceptCmd s), ?_⟩
    · rw [exec_blockCommand hidle hi, startBlock_of_kv dir (s := acceptCmd s) hkv]; rfl
    · simp [Status.started, Status.accepted, hkv, Config.ecodeNone]
  · rw [exec_blockCommand hidle hi, startBlock_of_noKey dir (s := acceptCmd s) hkv, cmdError_acceptCmd _ hidle, hkv]
    rfl

end Sys2Proof.Proofs.Exceptions
end

section
/-! PROOFS. The operand snapshot against later writes of KEY and DIN (R338), and the values reset leaves (R331). -/

namespace Sys2Proof.Proofs.ResetAndHazards

open Sys2Proof.Machine Sys2Proof.Proofs.HostInterface Sys2Proof.Proofs.Exceptions

/-! ### Hazards (R338) -/

/-- Complete neither reads nor writes KEY and DIN: the operation in flight has its operand in PEND (R170, R241). -/
theorem complete_setOperands (a : Arch) (key : MasterKey64) (din : Block64) :
    ({ a with key := key, din := din } : Arch).complete = { a.complete with key := key, din := din } := by
  rcases hp : a.pend with _ | k | ⟨dir, b⟩
  · rw [complete_of_none hp, complete_of_none rfl, ← hp]
  · rw [complete_of_ks hp, complete_of_ks rfl]; rfl
  · rw [complete_of_blk hp, complete_of_blk rfl]; rfl

@[simp] theorem complete_key (a : Arch) : a.complete.key = a.key :=
  (congrArg Arch.key (complete_setOperands a a.key a.din) :)

@[simp] theorem complete_din (a : Arch) : a.complete.din = a.din :=
  (congrArg Arch.din (complete_setOperands a a.key a.din) :)

theorem complete_setKey (a : Arch) (v : MasterKey64) :
    ({ a with key := v } : Arch).complete = { a.complete with key := v } := by
  rw [complete_setOperands a v a.din, ← complete_din a]

theorem complete_setDin (a : Arch) (v : Block64) :
    ({ a with din := v } : Arch).complete = { a.complete with din := v } := by
  rw [complete_setOperands a a.key v, ← complete_key a]

/-- KEYSCHED with no operation in flight takes its snapshot from KEY as it stands (R169). -/
theorem keysched_snapshots_key {s : State} (hidle : s.arch.status.busy = false) :
    ∃ u, exec .keysched s = .next u ∧ u.arch.pend = .ks s.arch.key :=
  ⟨startKeysched (acceptCmd s), congrArg _ (cmdWrite_of_idle _ hidle), rfl⟩

/-- An accepted block command takes its snapshot from DIN as it stands (R239, R240). -/
theorem blockCommand_snapshots_din {s : State} {dir : Dir} {i : Instr} (hidle : s.arch.status.busy = false)
    (hkv : s.arch.status.kv = true)
    (hi : (dir = .enc ∧ (i = .encrypt ∨ i = .wrCmd 0x2)) ∨ (dir = .dec ∧ (i = .decrypt ∨ i = .wrCmd 0x3))) :
    ∃ u, exec i s = .next u ∧ u.arch.pend = .blk dir s.arch.din := by
  obtain ⟨u, hexec, -, harch⟩ := (blockCommandsStartOrReject s dir i hidle hi).1 hkv
  exact ⟨u, hexec, by rw [harch]⟩

/-- Settles O13: Complete commutes with both writes, and a command reads KEY or DIN as the write left it. -/
theorem operandSnapshotIsolated : Obligations.OperandSnapshotIsolated := by
  intro v s
  obtain ⟨hkey, hdin⟩ := keyAndDinWrites v s
  refine ⟨⟨_, hkey, complete_setKey s.arch v, fun hidle => keysched_snapshots_key hidle⟩,
    ⟨_, hdin, complete_setDin s.arch v, fun hidle hkv => ⟨?_, ?_⟩⟩⟩
  · exact blockCommand_snapshots_din hidle hkv (.inl ⟨rfl, .inl rfl⟩)
  · exact blockCommand_snapshots_din hidle hkv (.inr ⟨rfl, .inl rfl⟩)

/-! ### Reset (R331) -/

/-- With every field at its reset value the STATUS word is zero (R35, R331). -/
@[simp] theorem status_reset_word : Status.reset.word = 0 := by decide

/-- CMD holds no state and reads as zero in every state (R34). -/
@[simp] theorem read_cmd (a : Arch) : a.read .cmd = 0 := rfl

/-- Settles O20: the values of Arch.reset, whatever RK holds. -/
theorem resetLeavesTheseValues : Obligations.ResetLeavesTheseValues :=
  ⟨Arch.reset_key _, Arch.reset_din _, Arch.reset_dout _, status_reset_word, read_cmd _, Arch.reset_status _,
    Arch.reset_pend _⟩

end Sys2Proof.Proofs.ResetAndHazards
end

section
/-! PROOFS. What a step can do to the architectural state, said once: the Host's write, a completion, or Reset (R78,
R268). What changes KEY, DIN and KV follows (R31, R32, R37). -/

namespace Sys2Proof.Proofs.ArchEvents

open Sys2Proof.Machine Sys2Proof.Proofs.Sequencer

/-! ### Host writes -/

/-- A host write reads and writes no input of the machine: its architectural effect is the same under another schedule
and host program. -/
theorem hostWrite_arch_inputs (idx : RegIdx) (v : Block64) (s : State) (sched : List Turn) (host : List HostItem) :
    (hostWrite idx v { s with sched := sched, host := host }).arch = (hostWrite idx v s).arch := by
  cases idx
  case cmd =>
    rcases hb : s.arch.status.busy
    · rcases hc : decodeCmd v <;> rcases hk : s.arch.status.kv <;>
        simp [hostWrite, cmdWrite, hb, hc, hk, dispatchCmd, startKeysched, startBlock]
    · simp [hostWrite, cmdWrite, hb]
  all_goals rfl

/-- A CMD write changes STATUS and PEND alone, and of STATUS not KV (R263, R303). -/
theorem cmdWrite_arch (v : Block64) (s : State) :
    ∃ st p, (cmdWrite v s).arch = { s.arch with status := st, pend := p } ∧ st.kv = s.arch.status.kv := by
  obtain ⟨-, h⟩ | ⟨-, -, h⟩ | ⟨-, -, h⟩ | ⟨-, h⟩ | ⟨-, -, dir, h⟩ := cmdWrite_cases v s <;> rw [h] <;>
    exact ⟨_, _, rfl, rfl⟩

@[simp] theorem hostWrite_dout (idx : RegIdx) (v : Block64) (s : State) :
    (hostWrite idx v s).arch.dout = s.arch.dout := by
  cases idx
  case cmd => obtain ⟨st, p, h, -⟩ := cmdWrite_arch v s; rw [hostWrite, h]
  all_goals rfl

@[simp] theorem hostWrite_kv (idx : RegIdx) (v : Block64) (s : State) :
    (hostWrite idx v s).arch.status.kv = s.arch.status.kv := by
  cases idx
  case cmd => obtain ⟨st, p, h, hkv⟩ := cmdWrite_arch v s; rw [hostWrite, h, hkv]
  all_goals rfl

/-- KEY is reached by its own register index alone (R31). -/
theorem key_of_hostWrite_ne {idx : RegIdx} {v : Block64} {s : State}
    (h : (hostWrite idx v s).arch.key ≠ s.arch.key) : idx = .key ∧ (hostWrite idx v s).arch.key = v := by
  cases idx
  case key => exact ⟨rfl, rfl⟩
  case cmd => obtain ⟨st, p, he, -⟩ := cmdWrite_arch v s; exact absurd (congrArg Arch.key he) h
  all_goals exact absurd rfl h

/-- DIN is reached by its own register index alone (R32). -/
theorem din_of_hostWrite_ne {idx : RegIdx} {v : Block64} {s : State}
    (h : (hostWrite idx v s).arch.din ≠ s.arch.din) : idx = .din ∧ (hostWrite idx v s).arch.din = v := by
  cases idx
  case din => exact ⟨rfl, rfl⟩
  case cmd => obtain ⟨st, p, he, -⟩ := cmdWrite_arch v s; exact absurd (congrArg Arch.din he) h
  all_goals exact absurd rfl h

/-- A record with W = 1 decodes to the write of the register it names (R100). -/
theorem decodeHost_of_write {w : Txn68} {idx : RegIdx} (hW : txnIsWrite w = true)
    (hidx : RegIdx.ofIndex (txnIndex w) = idx) : decode (.host68 w) = .ok (writeInstr idx (txnData w)) := by
  rw [decode, decodeHost, if_pos hW, hidx]

/-! ### Completions -/

/-- An operation in flight ends: KEYSCHED with some schedule, or a block operation with some block. -/
inductive Finishes (a : Arch) : Arch → Prop where
  | key (k : MasterKey64) (sc : Schedule) (hp : a.pend = .ks k) : Finishes a (a.finishKey sc)
  | block (dir : Dir) (b v : Block64) (hp : a.pend = .blk dir b) : Finishes a (a.finishBlock v)

/-- Complete does nothing, or ends the operation in flight (R269, R270). -/
theorem complete_silent_or_finishes (a : Arch) : a.complete = a ∨ Finishes a a.complete := by
  rcases hp : a.pend with _ | k | ⟨dir, b⟩
  · exact .inl (complete_of_none hp)
  · exact .inr (complete_of_ks hp ▸ .key k _ hp)
  · exact .inr (complete_of_blk hp ▸ .block dir b _ hp)

/-- So does a cycle of the sequencer, whatever its working registers hold (R238). -/
theorem seqCycle_silent_or_finishes (s : State) : (seqCycle s).arch = s.arch ∨ Finishes s.arch (seqCycle s).arch := by
  obtain h | ⟨k, hp, -, h⟩ | ⟨dir, b, hp, -, h⟩ := seqCycle_arch_cases s
  · exact .inl h
  · exact .inr (h ▸ .key k _ hp)
  · exact .inr (h ▸ .block dir b _ hp)

/-! ### A step -/

/-- What a step can make of the architectural state. -/
inductive ArchEvent (s : State) : Arch → Prop where
  /-- Nothing. -/
  | silent : ArchEvent s s.arch
  /-- The Host's write of the register the transaction at the head of its program names (R261). -/
  | write (w : Txn68) (host : List HostItem) (hw : s.host = .txn w :: host) (hW : txnIsWrite w = true) :
      ArchEvent s (hostWrite (RegIdx.ofIndex (txnIndex w)) (txnData w) s).arch
  /-- The end of the operation in flight (R270). -/
  | finish (a : Arch) (h : Finishes s.arch a) : ArchEvent s a
  /-- Reset (R330). -/
  | reset (turns : List Turn) (hs : s.sched = .reset :: turns) (rk : Schedule) : ArchEvent s (Arch.reset rk)

theorem ArchEvent.of_silent_or_finishes {s : State} {a : Arch} (h : a = s.arch ∨ Finishes s.arch a) :
    ArchEvent s a := by
  obtain rfl | hfin := h
  · exact .silent
  · exact .finish a hfin

/-- Every step that answers a next state is one of the architectural events. -/
theorem archEvent_of_step {s t : State} (hstep : step s = .next t) : ArchEvent s t.arch := by
  cases step_cases hstep with
  | idle | read | uop => exact .silent
  | write sched host w hw hW => rw [hostWrite_arch_inputs]; exact .write w host hw hW
  | complete => exact .of_silent_or_finishes (complete_silent_or_finishes s.arch)
  | cycle sched => exact .of_silent_or_finishes (seqCycle_silent_or_finishes { s with sched := sched })
  | reset sched hs => exact .reset sched hs _

/-! ### What changes KEY, DIN and KV -/

/-- What no completion changes, a host write or Reset changed. -/
theorem ArchEvent.write_or_reset_of_ne {α : Type} {field : Arch → α} {s : State} {a : Arch} (h : ArchEvent s a)
    (hfield : ∀ b, Finishes s.arch b → field b = field s.arch) (hne : field a ≠ field s.arch) :
    (∃ w host, s.host = .txn w :: host ∧ txnIsWrite w = true ∧
      a = (hostWrite (RegIdx.ofIndex (txnIndex w)) (txnData w) s).arch) ∨
    (∃ rest, s.sched = .reset :: rest) := by
  cases h with
  | silent => exact absurd rfl hne
  | write w host hw hW => exact .inl ⟨w, host, hw, hW, rfl⟩
  | finish a hfin => exact absurd (hfield a hfin) hne
  | reset turns hs => exact .inr ⟨turns, hs⟩

theorem Finishes.key_din {a b : Arch} (h : Finishes a b) : b.key = a.key ∧ b.din = a.din := by
  cases h <;> exact ⟨rfl, rfl⟩

/-- Reset alone clears KV, and the end of a KEYSCHED alone sets it. -/
theorem ArchEvent.kv_ne {s : State} {a : Arch} (h : ArchEvent s a) (hne : a.status.kv ≠ s.arch.status.kv) :
    (a.status.kv = true ∧ (∃ k, s.arch.pend = .ks k) ∧ a.pend = .none) ∨
    (a.status.kv = false ∧ ∃ rest, s.sched = .reset :: rest) := by
  cases h with
  | silent => exact absurd rfl hne
  | write => exact absurd (hostWrite_kv _ _ _) hne
  | finish a hfin =>
    cases hfin with
    | key k sc hp => exact .inl ⟨rfl, ⟨k, hp⟩, rfl⟩
    | block => exact absurd rfl hne
  | reset turns hs => exact .inr ⟨rfl, turns, hs⟩

/-- Settles O17: no completion changes KEY or DIN, and a host write changes the register it names. -/
theorem keyAndDinChangeOnlyByHostWrite : Obligations.KeyAndDinChangeOnlyByHostWrite := by
  refine fun s t hstep => ⟨fun hne => ?_, fun hne => ?_⟩
  · obtain ⟨w, host, hw, hW, ha⟩ | hreset :=
      (archEvent_of_step hstep).write_or_reset_of_ne (fun _ hfin => hfin.key_din.1) hne
    · rw [ha] at hne ⊢
      obtain ⟨hidx, hv⟩ := key_of_hostWrite_ne hne
      rw [hv]
      exact .inl ⟨w, host, hw, decodeHost_of_write hW hidx⟩
    · exact .inr hreset
  · obtain ⟨w, host, hw, hW, ha⟩ | hreset :=
      (archEvent_of_step hstep).write_or_reset_of_ne (fun _ hfin => hfin.key_din.2) hne
    · rw [ha] at hne ⊢
      obtain ⟨hidx, hv⟩ := din_of_hostWrite_ne hne
      rw [hv]
      exact .inl ⟨w, host, hw, decodeHost_of_write hW hidx⟩
    · exact .inr hreset

/-- Settles O18: of the architectural events only Reset clears KV, and only the end of a KEYSCHED sets it. -/
theorem keyValidSetAndClearedOnly : Obligations.KeyValidSetAndClearedOnly := by
  refine fun s t hstep => ⟨fun hs ht => ?_, fun hs ht => ?_⟩
  · obtain ⟨hkv, -⟩ | ⟨-, hreset⟩ := (archEvent_of_step hstep).kv_ne (by simp [hs, ht])
    · simp [ht] at hkv
    · exact hreset
  · obtain ⟨-, hend⟩ | ⟨hkv, -⟩ := (archEvent_of_step hstep).kv_ne (by simp [hs, ht])
    · exact hend
    · simp [ht] at hkv

end Sys2Proof.Proofs.ArchEvents
end

section
/-! PROOFS. Runs of the machine, step by step. -/

namespace Sys2Proof.Proofs.Runs

open Sys2Proof.Machine

/-- A run of `n + 1` steps is a step and a run of `n`. -/
theorem runsTo_succ_iff {n : Nat} {s t : State} : runsTo (n + 1) s t ↔ ∃ u, step s = .next u ∧ runsTo n u t := by
  refine ⟨fun h => ?_, fun ⟨u, hstep, hrest⟩ => ?_⟩
  · rcases hcore : Sys2Proof.core.step s with u | r | r <;> simp only [runsTo, Host.Core.run, hcore] at h
    · exact ⟨u, hcore, h⟩
    all_goals cases h
  · have hcore : Sys2Proof.core.step s = .next u := hstep
    simp only [runsTo, Host.Core.run, hcore]
    exact hrest

theorem runsTo_succ {n : Nat} {s u t : State} (hstep : step s = .next u) (hrun : runsTo n u t) :
    runsTo (n + 1) s t :=
  runsTo_succ_iff.mpr ⟨u, hstep, hrun⟩

theorem runsTo_one {s t : State} (hstep : step s = .next t) : runsTo 1 s t := runsTo_succ hstep rfl

/-- Two runs one after the other. -/
theorem runsTo_add {n m : Nat} {s t u : State} (hfirst : runsTo n s t) (hsecond : runsTo m t u) :
    runsTo (n + m) s u := by
  induction n generalizing s with
  | zero => cases hfirst; rwa [Nat.zero_add]
  | succ n ih =>
    obtain ⟨s', hstep, hrest⟩ := runsTo_succ_iff.mp hfirst
    rw [Nat.succ_add]
    exact runsTo_succ hstep (ih hrest)

end Sys2Proof.Proofs.Runs
end

section
/-! PROOFS. The reference sequencer against the rules: what its working registers hold after each cycle (R238), that a
cycle is silent or exactly Complete (R45), in which cycle it completes (R341), and what follows for DOUT, for KV, and
for the events of a step (R33, R37, R78). -/

namespace Sys2Proof.Proofs.SequencerRefinement

open Sys2Proof.Machine Sys2Proof.Proofs.Encoding Sys2Proof.Proofs.Sequencer Sys2Proof.Proofs.KeySchedule
  Sys2Proof.Proofs.Exceptions Sys2Proof.Proofs.ArchEvents Sys2Proof.Proofs.Runs

/-! ### SeqInv, by what is in flight -/

/-- What SeqInv says while a block operation is in flight. -/
theorem seqInv_blk_iff {s : State} {dir : Dir} {b : Block64} (hp : s.arch.pend = .blk dir b) :
    SeqInv s ↔ s.work.rnd.toNat ≤ 17 ∧
      (1 ≤ s.work.rnd.toNat →
        (s.work.wl, s.work.wr) = roundsAfter dir s.arch.rk b (s.work.rnd.toNat - 1)) := by
  simp only [SeqInv, hp]

/-- SeqInv asks nothing of an idle sequencer. -/
theorem seqInv_of_idle {s : State} (hp : s.arch.pend = .none) : SeqInv s := by simp only [SeqInv, hp]

/-- SeqInv asks nothing before the load cycle. -/
theorem seqInv_of_rnd_zero {s : State} (h0 : s.work.rnd = 0) : SeqInv s := by
  rcases hp : s.arch.pend with _ | k | ⟨dir, b⟩
  · exact seqInv_of_idle hp
  · exact (seqInv_ks_iff hp).mpr (by simp [h0])
  · exact (seqInv_blk_iff hp).mpr (by simp [h0])

/-- The value of RND in the last cycle of the operation in flight (log entry 8). -/
def lastRnd : Pend → Nat
  | .none => 0
  | .ks _ => 16
  | .blk _ _ => 17

theorem rnd_le_lastRnd {s : State} (hinv : SeqInv s) (hp : s.arch.pend ≠ .none) :
    s.work.rnd.toNat ≤ lastRnd s.arch.pend := by
  rcases hpend : s.arch.pend with _ | k | ⟨dir, b⟩
  · exact absurd hpend hp
  · exact ((seqInv_ks_iff hpend).mp hinv).1
  · exact ((seqInv_blk_iff hpend).mp hinv).1

/-! ### One cycle -/

theorem seqCycle_of_idle {s : State} (hp : s.arch.pend = .none) : seqCycle s = s := by simp only [seqCycle, hp]

/-- A cycle neither reads nor writes the schedule of turns. -/
theorem seqCycle_setSched (s : State) (sched : List Turn) :
    seqCycle { s with sched := sched } = { seqCycle s with sched := sched } := by
  rcases hp : s.arch.pend with _ | k | ⟨dir, b⟩ <;> simp only [seqCycle, hp]
  all_goals split_ifs <;> rfl

/-- A cycle leaves the Host's program and what it has read (R268). -/
theorem seqCycle_host (s : State) : (seqCycle s).host = s.host ∧ (seqCycle s).returned = s.returned := by
  rcases hp : s.arch.pend with _ | k | ⟨dir, b⟩
  case none => rw [seqCycle_of_idle hp]; exact ⟨rfl, rfl⟩
  all_goals
    simp only [seqCycle, hp]
    split_ifs <;> exact ⟨rfl, rfl⟩

theorem rnd_add_one {r : BitVec 5} (h : r.toNat ≤ 17) : (r + 1).toNat = r.toNat + 1 := by
  bv_omega

/-- Before its last cycle the sequencer is silent and counts on (R238). -/
theorem seqCycle_before_last {s : State} (hlt : s.work.rnd.toNat < lastRnd s.arch.pend) :
    (seqCycle s).arch = s.arch ∧ (seqCycle s).work.rnd.toNat = s.work.rnd.toNat + 1 := by
  rcases hp : s.arch.pend with _ | k | ⟨dir, b⟩ <;> rw [hp, lastRnd] at hlt <;> simp only [seqCycle, hp]
  case none => omega
  case ks =>
    by_cases h0 : s.work.rnd.toNat = 0
    · rw [if_pos h0, h0]; exact ⟨rfl, rfl⟩
    · rw [if_neg h0, if_pos hlt]; exact ⟨rfl, rnd_add_one (by omega)⟩
  case blk =>
    by_cases h0 : s.work.rnd.toNat = 0
    · rw [if_pos h0, h0]; exact ⟨rfl, rfl⟩
    · rw [if_neg h0, if_pos (by omega)]; exact ⟨rfl, rnd_add_one (by omega)⟩

/-- The last cycle is Complete: after its rounds the sequencer's registers hold what the rules derive from the snapshot
(R170, R238, R241). -/
theorem seqCycle_last {s : State} (hinv : SeqInv s) (hlast : s.work.rnd.toNat = lastRnd s.arch.pend) :
    (seqCycle s).arch = s.arch.complete := by
  rcases hp : s.arch.pend with _ | k | ⟨dir, b⟩ <;> rw [hp, lastRnd] at hlast
  · rw [seqCycle_of_idle hp, complete_of_none hp]
  · rw [complete_of_ks hp, ← seqKeyRound_rks_eq_derived hp hinv hlast]
    simp only [seqCycle, hp, hlast]
    rfl
  · obtain ⟨-, hpair⟩ := (seqInv_blk_iff hp).mp hinv
    have hrounds := hpair (by omega)
    rw [hlast] at hrounds
    rw [complete_of_blk hp, cipherBlock, ← hrounds]
    simp only [seqCycle, hp, hlast]
    rfl

/-- Under SeqInv a cycle has no architectural effect or is exactly Complete (R45). -/
theorem seqCycle_arch_refines {s : State} (hinv : SeqInv s) :
    (seqCycle s).arch = s.arch ∨ (s.arch.pend ≠ .none ∧ (seqCycle s).arch = s.arch.complete) := by
  by_cases hp : s.arch.pend = .none
  · exact .inl (by rw [seqCycle_of_idle hp])
  · obtain hlt | hlast := (rnd_le_lastRnd hinv hp).lt_or_eq
    · exact .inl (seqCycle_before_last hlt).1
    · exact .inr ⟨hp, seqCycle_last hinv hlast⟩

theorem step_of_cycle {s : State} {rest : List Turn} (hs : s.sched = .cycle :: rest) :
    step s = .next { seqCycle s with sched := rest } := by
  rw [← seqCycle_setSched]; simp only [step, fetch, hs]

/-- Settles O29: the turn is a cycle, which is silent or Complete. -/
theorem sequencerRefinesComplete : Obligations.SequencerRefinesComplete :=
  fun s _ hinv hs =>
    ⟨_, step_of_cycle hs, rfl, (seqCycle_host s).1, (seqCycle_host s).2, seqCycle_arch_refines hinv⟩

/-! ### SeqInv is kept -/

/-- The load cycle of KEYSCHED splits PC-1 of the snapshot (R161). -/
theorem seqInv_seqKeyLoad {s : State} {k : MasterKey64} (hp : s.arch.pend = .ks k) : SeqInv (seqKeyLoad k s) := by
  refine (seqInv_ks_iff (s := seqKeyLoad k s) hp).mpr ⟨by simp [seqKeyLoad], fun _ => ⟨?_, fun r h1 hlt => ?_⟩⟩
  · simp [seqKeyLoad, Datapath.perm, permux, halvesAfter]
  · have : r < 1 := hlt
    omega

/-- A round of KEYSCHED brings the halves and the shadow schedule one round on (R163, R164). -/
theorem seqInv_seqKeyRound {s : State} {k : MasterKey64} (hp : s.arch.pend = .ks k) (hinv : SeqInv s)
    (h1 : 1 ≤ s.work.rnd.toNat) (hlt : s.work.rnd.toNat < 16) : SeqInv (seqKeyRound s) := by
  have hrnd : (seqKeyRound s).work.rnd.toNat = s.work.rnd.toNat + 1 := rnd_add_one (by omega)
  refine (seqInv_ks_iff (s := seqKeyRound s) hp).mpr ⟨by omega, fun _ => ⟨?_, fun r hr hrlt => ?_⟩⟩
  · obtain ⟨-, hwork⟩ := (seqInv_ks_iff hp).mp hinv
    have hsucc := (Nat.sub_add_cancel h1).symm
    rw [seqKeyRound_halves hsucc (hwork h1).1, hrnd, Nat.add_sub_cancel, ← hsucc]
  · exact rkAt_seqKeyRound hp hinv h1 hr (by omega)

/-- The load cycle of a block operation splits IP of the snapshot (R230). -/
theorem seqInv_seqBlockLoad {s : State} {dir : Dir} {b : Block64} (hp : s.arch.pend = .blk dir b) :
    SeqInv (seqBlockLoad b s) :=
  (seqInv_blk_iff (s := seqBlockLoad b s) hp).mpr ⟨by simp [seqBlockLoad], fun _ => rfl⟩

/-- A round of a block operation brings the pair one round on (R231). -/
theorem seqInv_seqBlockRound {s : State} {dir : Dir} {b : Block64} (hp : s.arch.pend = .blk dir b) (hinv : SeqInv s)
    (h1 : 1 ≤ s.work.rnd.toNat) (hle : s.work.rnd.toNat ≤ 16) : SeqInv (seqBlockRound dir s) := by
  have hrnd : (seqBlockRound dir s).work.rnd.toNat = s.work.rnd.toNat + 1 := rnd_add_one (by omega)
  obtain ⟨-, hpair⟩ := (seqInv_blk_iff hp).mp hinv
  refine (seqInv_blk_iff (s := seqBlockRound dir s) hp).mpr ⟨by omega, fun _ => ?_⟩
  obtain ⟨r, hr⟩ : ∃ r, s.work.rnd.toNat = r + 1 := ⟨_, (Nat.sub_add_cancel h1).symm⟩
  have hwork := hpair h1
  rw [hr, Nat.add_sub_cancel] at hwork
  rw [hrnd, hr, Nat.add_sub_cancel]
  simp [seqBlockRound, Datapath.roundUnit, roundsAfter, ← hwork, hr]

/-- A cycle keeps SeqInv: load, round, or the completion that leaves the sequencer idle. -/
theorem seqInv_seqCycle {s : State} (hinv : SeqInv s) : SeqInv (seqCycle s) := by
  rcases hp : s.arch.pend with _ | k | ⟨dir, b⟩
  case none => rwa [seqCycle_of_idle hp]
  all_goals simp only [seqCycle, hp]
  case ks =>
    split_ifs with h0 hlt hlast
    · exact seqInv_seqKeyLoad hp
    · exact seqInv_seqKeyRound hp hinv (by omega) hlt
    · exact seqInv_of_idle rfl
    · exact hinv
  case blk =>
    split_ifs with h0 hle hlast
    · exact seqInv_seqBlockLoad hp
    · exact seqInv_seqBlockRound hp hinv (by omega) hle
    · exact seqInv_of_idle rfl
    · exact hinv

/-- A host write keeps SeqInv: it leaves PEND, RK and the working registers, or starts an operation at RND = 0. -/
theorem seqInv_hostWrite {s : State} (idx : RegIdx) (v : Block64) (hinv : SeqInv s) : SeqInv (hostWrite idx v s) := by
  cases idx
  case cmd =>
    obtain ⟨-, h⟩ | ⟨-, -, h⟩ | ⟨-, -, h⟩ | ⟨-, h⟩ | ⟨-, -, dir, h⟩ := cmdWrite_cases v s <;> rw [hostWrite, h]
    · exact hinv
    · exact hinv
    · exact hinv
    · exact seqInv_of_rnd_zero rfl
    · exact seqInv_of_rnd_zero rfl
  all_goals exact hinv

theorem complete_pend (a : Arch) : a.complete.pend = .none := by
  rcases hp : a.pend with _ | k | ⟨dir, b⟩
  · rw [complete_of_none hp, hp]
  · rw [complete_of_ks hp, Arch.finishKey_pend]
  · rw [complete_of_blk hp, Arch.finishBlock_pend]

/-- Settles O27: no event but a host write and a cycle touches what SeqInv speaks of with an operation in flight. -/
theorem sequencerInvariantKept : Obligations.SequencerInvariantKept := by
  intro s t hinv hstep
  cases step_cases hstep with
  | idle | read | uop => exact hinv
  | write => exact seqInv_hostWrite _ _ hinv
  | complete => exact seqInv_of_idle (complete_pend _)
  | cycle sched => exact seqInv_seqCycle (s := { s with sched := sched }) hinv
  | reset => exact seqInv_of_idle rfl

/-! ### Latency -/

/-- `n` cycle turns run the sequencer `n` times. -/
theorem runsTo_cycles (n : Nat) (s : State) (rest : List Turn) :
    runsTo n { s with sched := List.replicate n .cycle ++ rest } { seqCycle^[n] s with sched := rest } := by
  induction n generalizing s with
  | zero => rfl
  | succ n ih =>
    refine runsTo_succ (step_of_cycle rfl) ?_
    rw [seqCycle_setSched]
    exact ih (seqCycle s)

/-- From the start of an operation the cycles up to the last are silent, and keep SeqInv. -/
theorem seqCycle_iterate_silent {s : State} (h0 : s.work.rnd = 0) {n : Nat} (hn : n ≤ lastRnd s.arch.pend) :
    (seqCycle^[n] s).arch = s.arch ∧ (seqCycle^[n] s).work.rnd.toNat = n ∧ SeqInv (seqCycle^[n] s) := by
  induction n with
  | zero => exact ⟨rfl, by simp [h0], seqInv_of_rnd_zero h0⟩
  | succ n ih =>
    obtain ⟨harch, hrnd, hinv⟩ := ih (by omega)
    obtain ⟨harch', hrnd'⟩ := seqCycle_before_last (s := seqCycle^[n] s) (by rw [harch, hrnd]; omega)
    rw [Function.iterate_succ_apply']
    exact ⟨harch'.trans harch, by rw [hrnd', hrnd], seqInv_seqCycle hinv⟩

/-- The next cycle is Complete. -/
theorem seqCycle_iterate_completes {s : State} (h0 : s.work.rnd = 0) :
    (seqCycle^[lastRnd s.arch.pend + 1] s).arch = s.arch.complete := by
  obtain ⟨harch, hrnd, hinv⟩ := seqCycle_iterate_silent h0 le_rfl
  rw [Function.iterate_succ_apply', seqCycle_last hinv (by rw [harch, hrnd]), harch]

/-- An operation completes in the cycle after those its last round counts, and not before. -/
theorem latency_of_lastRnd {s : State} (rest : List Turn) (h0 : s.work.rnd = 0) {last : Nat}
    (hlast : lastRnd s.arch.pend = last) :
    (∀ n, n < last + 1 →
      ∃ t, runsTo n { s with sched := List.replicate n .cycle ++ rest } t ∧ t.arch = s.arch) ∧
    ∃ t, runsTo (last + 1) { s with sched := List.replicate (last + 1) .cycle ++ rest } t ∧
      t.arch = s.arch.complete := by
  subst hlast
  exact ⟨fun n hn => ⟨_, runsTo_cycles n s rest, (seqCycle_iterate_silent h0 (by omega)).1⟩,
    ⟨_, runsTo_cycles _ s rest, seqCycle_iterate_completes h0⟩⟩

/-- Settles O30: RND counts from 0 to 17 for a block operation and to 16 for KEYSCHED, one a cycle. -/
theorem sequencerLatency : Obligations.SequencerLatency :=
  fun _ rest h0 =>
    ⟨fun _ _ hp => latency_of_lastRnd rest h0 (by rw [hp, lastRnd]),
      fun _ hp => latency_of_lastRnd rest h0 (by rw [hp, lastRnd])⟩

/-! ### What changes DOUT -/

/-- Complete changes DOUT only by committing a block result (R241). -/
theorem pend_blk_of_complete_dout_ne {a : Arch} (h : a.complete.dout ≠ a.dout) :
    ∃ dir b, a.pend = .blk dir b ∧ a.complete = a.finishBlock (cipherBlock dir a.rk b) := by
  rcases hp : a.pend with _ | k | ⟨dir, b⟩
  · exact absurd (congrArg Arch.dout (complete_of_none hp)) h
  · exact absurd (congrArg Arch.dout (complete_of_ks hp)) h
  · exact ⟨dir, b, rfl, complete_of_blk hp⟩

/-- Each way a step can change DOUT commits a whole result, or is Reset. -/
theorem dout_ne_cases {s t : State} (hinv : SeqInv s) (hstep : step s = .next t) (hne : t.arch.dout ≠ s.arch.dout) :
    (∃ dir b, s.arch.pend = .blk dir b ∧ t.arch = s.arch.finishBlock (cipherBlock dir s.arch.rk b)) ∨
    (∃ rest, s.sched = .reset :: rest ∧ t = resetEvent { s with sched := rest }) := by
  cases step_cases hstep with
  | idle | read | uop => exact absurd rfl hne
  | write => exact absurd (hostWrite_dout _ _ _) hne
  | complete => exact .inl (pend_blk_of_complete_dout_ne hne)
  | cycle sched =>
    obtain h | ⟨-, h⟩ := seqCycle_arch_refines (s := { s with sched := sched }) hinv
    · exact absurd (congrArg Arch.dout h) hne
    · rw [h] at hne ⊢
      exact .inl (pend_blk_of_complete_dout_ne hne)
  | reset sched hs => exact .inr ⟨sched, hs, rfl⟩

/-- Settles O16: of the events a step can be, only the completion of a block operation, atomic or by the sequencer's
last cycle, and Reset write DOUT. -/
theorem doutChangesOnlyByCompletion : Obligations.DoutChangesOnlyByCompletion := by
  intro s t hinv hstep hne
  obtain ⟨dir, b, hp, ht⟩ | ⟨rest, hs, rfl⟩ := dout_ne_cases hinv hstep hne
  · rw [ht]
    exact .inl ⟨dir, b, hp, rfl, rfl, rfl, rfl⟩
  · exact .inr ⟨⟨rest, hs⟩, rfl⟩

/-! ### One event a step -/

/-- PEND or BUSY leaves idle for an operation in flight. -/
def LeavesIdle (a b : Arch) : Prop :=
  (a.pend = .none ∧ b.pend ≠ .none) ∨ (a.status.busy = false ∧ b.status.busy = true)

theorem not_leavesIdle_of_eq {a b : Arch} (hpend : b.pend = a.pend) (hbusy : b.status.busy = a.status.busy) :
    ¬ LeavesIdle a b := by
  simp [LeavesIdle, hpend, hbusy]

theorem not_leavesIdle_of_idle {a b : Arch} (hpend : b.pend = .none) (hbusy : b.status.busy = false) :
    ¬ LeavesIdle a b := by
  simp [LeavesIdle, hpend, hbusy]

/-- ENCRYPT and DECRYPT are rejected without a key (R305). -/
theorem kv_of_leavesIdle_startBlock {s : State} {dir : Dir}
    (h : LeavesIdle s.arch (startBlock dir (acceptCmd s)).arch) : s.arch.status.kv = true := by
  refine Bool.eq_true_of_not_eq_false fun hkv => ?_
  rw [startBlock_of_noKey dir (s := acceptCmd s) hkv] at h
  exact not_leavesIdle_of_eq rfl rfl h

/-- A CMD write that leaves idle was accepted, with a legal word whose preconditions are met (R263, R264). -/
theorem accepted_of_leavesIdle {v : Block64} {s : State} (h : LeavesIdle s.arch (cmdWrite v s).arch) :
    s.arch.status.busy = false ∧ (v = 0x1 ∨ (s.arch.status.kv = true ∧ (v = 0x2 ∨ v = 0x3))) := by
  have hidle : s.arch.status.busy = false := Bool.eq_false_of_not_eq_true fun hbusy =>
    not_leavesIdle_of_eq rfl rfl (cmdWrite_of_busy v hbusy ▸ h)
  rw [cmdWrite_of_idle v hidle] at h
  refine ⟨hidle, ?_⟩
  obtain ⟨rfl, -⟩ | ⟨rfl, hc⟩ | ⟨rfl, hc⟩ | ⟨-, hc⟩ := decodeCmd_cases v
  · exact .inl rfl
  · rw [hc] at h; exact .inr ⟨kv_of_leavesIdle_startBlock h, .inl rfl⟩
  · rw [hc] at h; exact .inr ⟨kv_of_leavesIdle_startBlock h, .inr rfl⟩
  · rw [hc] at h; exact absurd h (not_leavesIdle_of_eq rfl rfl)

/-- Of the architectural events only an accepted command leaves idle (R36, R44). -/
theorem accepted_of_archEvent_leavesIdle {s : State} {a : Arch} (h : ArchEvent s a) (hidle : LeavesIdle s.arch a) :
    s.arch.status.busy = false ∧
      ∃ w rest, s.host = .txn w :: rest ∧ txnIsWrite w = true ∧ RegIdx.ofIndex (txnIndex w) = .cmd ∧
        (txnData w = 0x1 ∨ (s.arch.status.kv = true ∧ (txnData w = 0x2 ∨ txnData w = 0x3))) := by
  cases h with
  | silent => exact absurd hidle (not_leavesIdle_of_eq rfl rfl)
  | finish a hfin => cases hfin <;> exact absurd hidle (not_leavesIdle_of_idle rfl rfl)
  | reset => exact absurd hidle (not_leavesIdle_of_idle rfl rfl)
  | write w host hw hW =>
    rcases hidx : RegIdx.ofIndex (txnIndex w) <;> rw [hidx] at hidle
    case cmd =>
      obtain ⟨hbusy, hword⟩ := accepted_of_leavesIdle hidle
      exact ⟨hbusy, w, host, hw, hW, hidx, hword⟩
    all_goals exact absurd hidle (not_leavesIdle_of_eq rfl rfl)

/-- The events of O19, each in its agent's turn. -/
theorem oneEvent_of_step {s t : State} (hinv : SeqInv s) (hstep : step s = .next t) :
    t.arch = s.arch ∨
    (∃ w rest, s.host = .txn w :: rest ∧ txnIsWrite w = true ∧ t.host = rest ∧
      ((∃ turns, s.sched = .host :: turns) ∨ (s.sched = [] ∧ s.arch.pend = .none)) ∧
      t.arch = (hostWrite (RegIdx.ofIndex (txnIndex w)) (txnData w) s).arch) ∨
    (s.arch.pend ≠ .none ∧
      ((∃ turns, s.sched = .engine :: turns) ∨ (∃ turns, s.sched = .cycle :: turns) ∨ s.sched = []) ∧
      t.arch = s.arch.complete) ∨
    ((∃ turns, s.sched = .reset :: turns) ∧ ∃ rk, t.arch = Arch.reset rk) := by
  cases step_cases hstep with
  | idle | read | uop => exact .inl rfl
  | write sched host w hw hW turn =>
    obtain ⟨-, hhost, -⟩ := hostWrite_frame (RegIdx.ofIndex (txnIndex w)) (txnData w)
      { s with sched := sched, host := host }
    exact .inr (.inl ⟨w, host, hw, hW, hhost, turn, hostWrite_arch_inputs _ _ _ _ _⟩)
  | complete sched turn =>
    by_cases hp : s.arch.pend = .none
    · exact .inl (complete_of_none hp)
    · exact .inr (.inr (.inl ⟨hp, turn.elim (fun h => .inl ⟨sched, h⟩) fun h => .inr (.inr h), rfl⟩))
  | cycle sched hs =>
    obtain h | ⟨hp, h⟩ := seqCycle_arch_refines (s := { s with sched := sched }) hinv
    · exact .inl h
    · exact .inr (.inr (.inl ⟨hp, .inr (.inl ⟨sched, hs⟩), h⟩))
  | reset sched hs => exact .inr (.inr (.inr ⟨⟨sched, hs⟩, _, rfl⟩))

/-- Settles O19: a step is one of the machine's events, a cycle of which is silent or Complete, and of these only an
accepted command leaves idle. -/
theorem everyStepIsOneEvent : Obligations.EveryStepIsOneEvent :=
  fun _ _ hinv hstep => ⟨oneEvent_of_step hinv hstep, accepted_of_archEvent_leavesIdle (archEvent_of_step hstep)⟩

/-! ### KV and the derived schedule -/

/-- Complete publishes a derived schedule with KV, or leaves both (R170, R241). -/
theorem keyValid_complete {a : Arch} (h : a.KeyValid) : a.complete.KeyValid := by
  rcases hp : a.pend with _ | k | ⟨dir, b⟩
  · rwa [complete_of_none hp]
  · rw [complete_of_ks hp]; exact fun _ => ⟨k, rfl⟩
  · rw [complete_of_blk hp]; exact h

/-- Settles O28: a host write leaves KV and RK, Complete keeps what KV says of RK, and Reset clears KV. -/
theorem keyValidMeansDerivedKept : Obligations.KeyValidMeansDerivedKept := by
  intro s t hinv hkey hstep
  obtain h | ⟨w, rest, -, -, -, -, h⟩ | ⟨-, -, h⟩ | ⟨-, rk, h⟩ := oneEvent_of_step hinv hstep <;> rw [h]
  · exact hkey
  · rw [Arch.KeyValid, hostWrite_kv, hostWrite_rk]; exact hkey
  · exact keyValid_complete hkey
  · exact fun hkv => nomatch hkv

end Sys2Proof.Proofs.SequencerRefinement
end

section
/-! PROOFS. STATUS: the layout of its word (R35, R42, R262), the invariants of R48, and the ten values it takes. -/

namespace Sys2Proof.Proofs.StatusInvariants

open Sys2Proof.Machine Sys2Proof.Proofs.Runs Sys2Proof.Proofs.ArchEvents Sys2Proof.Proofs.SequencerRefinement

/-! ### The word (R262) -/

/-- Settles O2: each bit of the word falls in one field of the concatenation. -/
theorem statusWordLayout : Obligations.StatusWordLayout := by
  intro st
  refine ⟨?_, ?_, ?_, ?_, BitVec.eq_of_getLsbD_eq fun j hj => ?_, ?_, fun i hi => ?_⟩
  case refine_5 =>
    rw [BitVec.getLsbD_extractLsb', Status.word, BitVec.getLsbD_setWidth]
    simp only [BitVec.getLsbD_append]
    interval_cases j <;> simp
  case refine_7 =>
    rw [Status.word, BitVec.getLsbD_setWidth, BitVec.getLsbD_of_ge _ i hi, Bool.and_false]
  all_goals
    rw [Status.word, BitVec.getLsbD_setWidth]
    simp only [BitVec.getLsbD_append]
    simp

/-- The word determines the fields. -/
theorem word_injective : Function.Injective Status.word := by
  intro st st' h
  obtain ⟨hbusy, hkv, hdone, herr, hecode, hovr, -⟩ := statusWordLayout st
  obtain ⟨hbusy', hkv', hdone', herr', hecode', hovr', -⟩ := statusWordLayout st'
  cases st
  cases st'
  simp_all only

/-! ### The invariants of R48 -/

/-- Clause (6) holds of every state: the reserved bits are no field. -/
theorem read_status_high (a : Arch) : ∀ i, 9 ≤ i → (a.read .status).getLsbD i = false := by
  obtain ⟨-, -, -, -, -, -, hhigh⟩ := statusWordLayout a.status
  exact hhigh

/-- R48 speaks of STATUS and PEND alone. -/
theorem inv_congr {a b : Arch} (h : a.Inv) (hstatus : b.status = a.status) (hpend : b.pend = a.pend) : b.Inv where
  busy_iff := by rw [hstatus, hpend]; exact h.busy_iff
  err_iff := by rw [hstatus]; exact h.err_iff
  err_idle := by rw [hstatus]; exact h.err_idle
  done_idle := by rw [hstatus]; exact h.done_idle
  ecode_legal := by rw [hstatus]; exact h.ecode_legal
  reserved_zero := read_status_high b
  block_has_key := by rw [hstatus, hpend]; exact h.block_has_key

/-- OVR is in no clause of R48. -/
theorem inv_overrun {a : Arch} (h : a.Inv) : ({ a with status := a.status.overrun } : Arch).Inv where
  busy_iff := h.busy_iff
  err_iff := h.err_iff
  err_idle := h.err_idle
  done_idle := h.done_idle
  ecode_legal := h.ecode_legal
  reserved_zero := read_status_high _
  block_has_key := h.block_has_key

/-- A rejection of an accepted write leaves ERR with its code, and nothing in flight (R303). -/
theorem inv_rejected {a : Arch} {code : Nibble} (h : a.Inv) (hidle : a.status.busy = false)
    (hcode : code = 1 ∨ code = 2) : ({ a with status := a.status.accepted.rejected code } : Arch).Inv where
  busy_iff := h.busy_iff
  err_iff := by obtain rfl | rfl := hcode <;> simp
  err_idle := fun _ => ⟨hidle, rfl⟩
  done_idle := fun _ => hidle
  ecode_legal := .inr hcode
  reserved_zero := read_status_high _
  block_has_key := h.block_has_key

/-- A start sets BUSY with PEND, over a STATUS that acceptance has cleared (R263). -/
theorem inv_started {a : Arch} {p : Pend} (hp : p ≠ .none) (hkey : ∀ dir b, p = .blk dir b → a.status.kv = true) :
    ({ a with status := a.status.accepted.started, pend := p } : Arch).Inv where
  busy_iff := iff_of_true rfl hp
  err_iff := by simp
  err_idle := fun herr => nomatch herr
  done_idle := fun hdone => nomatch hdone
  ecode_legal := .inl rfl
  reserved_zero := read_status_high _
  block_has_key := hkey

/-- With an operation in flight there is no error to report (R48 (1) to (3)). -/
theorem no_error_of_inFlight {a : Arch} (h : a.Inv) (hp : a.pend ≠ .none) :
    a.status.err = false ∧ a.status.ecode = 0 := by
  have herr : a.status.err = false := Bool.eq_false_of_not_eq_true fun herr => by
    simpa [h.busy_iff.mpr hp] using (h.err_idle herr).1
  exact ⟨herr, by_contra fun hcode => by simp [h.err_iff.mpr hcode] at herr⟩

/-- The end of an operation leaves no operation, no error, and DONE. -/
theorem inv_finished {a : Arch} (hpend : a.pend = .none) (hbusy : a.status.busy = false)
    (herr : a.status.err = false) (hcode : a.status.ecode = 0) : a.Inv where
  busy_iff := by simp [hpend, hbusy]
  err_iff := by simp [herr, hcode]
  err_idle := by simp [herr]
  done_idle := fun _ => hbusy
  ecode_legal := .inl hcode
  reserved_zero := read_status_high a
  block_has_key := by simp [hpend]

theorem inv_of_finishes {a b : Arch} (h : a.Inv) (hfin : Finishes a b) : b.Inv := by
  cases hfin with
  | key k sc hp =>
    obtain ⟨herr, hcode⟩ := no_error_of_inFlight h (by simp [hp])
    exact inv_finished rfl rfl herr hcode
  | block dir x v hp =>
    obtain ⟨herr, hcode⟩ := no_error_of_inFlight h (by simp [hp])
    exact inv_finished rfl rfl herr hcode

theorem inv_reset (rk : Schedule) : (Arch.reset rk).Inv := inv_finished rfl rfl rfl rfl

theorem inv_hostWrite {s : State} (idx : RegIdx) (v : Block64) (h : s.arch.Inv) : (hostWrite idx v s).arch.Inv := by
  cases idx
  case cmd =>
    obtain ⟨-, he⟩ | ⟨hidle, -, he⟩ | ⟨hidle, -, he⟩ | ⟨-, he⟩ | ⟨-, hkv, dir, he⟩ := cmdWrite_cases v s <;>
      rw [hostWrite, he]
    · exact inv_overrun h
    · exact inv_rejected (a := s.arch) h hidle (.inl rfl)
    · exact inv_rejected (a := s.arch) h hidle (.inr rfl)
    · exact inv_started nofun nofun
    · exact inv_started nofun fun _ _ _ => hkv
  all_goals exact inv_congr h rfl rfl

theorem inv_of_archEvent {s : State} {a : Arch} (h : s.arch.Inv) (hev : ArchEvent s a) : a.Inv := by
  cases hev with
  | silent => exact h
  | write => exact inv_hostWrite _ _ h
  | finish a hfin => exact inv_of_finishes h hfin
  | reset => exact inv_reset _

/-- Settles O24: each architectural event keeps the invariants. -/
theorem statusInvariantsKept : Obligations.StatusInvariantsKept :=
  fun _ _ h hstep => inv_of_archEvent h (archEvent_of_step hstep)

/-- Settles O23: at reset nothing is in flight, no error is recorded and KV = 0. -/
theorem invariantsHoldAtReset : Obligations.InvariantsHoldAtReset :=
  fun _ _ => ⟨inv_reset _, nofun, seqInv_of_idle rfl⟩

/-! ### The ten values of R262 -/

/-- The fields of the ten listed words. -/
def listedStatuses : List Status :=
  [{ busy := false, kv := false, done := false, err := false, ecode := 0, ovr := false },
   { busy := true, kv := false, done := false, err := false, ecode := 0, ovr := false },
   { busy := true, kv := true, done := false, err := false, ecode := 0, ovr := false },
   { busy := false, kv := true, done := true, err := false, ecode := 0, ovr := false },
   { busy := false, kv := false, done := false, err := true, ecode := 1, ovr := false },
   { busy := false, kv := true, done := false, err := true, ecode := 1, ovr := false },
   { busy := false, kv := false, done := false, err := true, ecode := 2, ovr := false },
   { busy := true, kv := false, done := false, err := false, ecode := 0, ovr := true },
   { busy := true, kv := true, done := false, err := false, ecode := 0, ovr := true },
   { busy := false, kv := true, done := true, err := false, ecode := 0, ovr := true }]

theorem statusValues_eq_map : statusValues = listedStatuses.map Status.word := by decide

theorem word_mem_iff (st : Status) : st.word ∈ statusValues ↔ st ∈ listedStatuses := by
  rw [statusValues_eq_map, List.mem_map_of_injective word_injective]

theorem overrun_listed : ∀ st ∈ listedStatuses, st.busy = true → st.overrun ∈ listedStatuses := by decide

theorem illegal_listed : ∀ st ∈ listedStatuses, st.busy = false →
    st.accepted.rejected Config.ecodeIllegalCmd ∈ listedStatuses := by decide

theorem noKey_listed : ∀ st ∈ listedStatuses, st.busy = false → st.kv = false →
    st.accepted.rejected Config.ecodeNoKey ∈ listedStatuses := by decide

theorem started_listed : ∀ st ∈ listedStatuses, st.busy = false → st.accepted.started ∈ listedStatuses := by decide

theorem keyDone_listed : ∀ st ∈ listedStatuses, st.busy = true → st.keyDone ∈ listedStatuses := by decide

theorem blockDone_listed : ∀ st ∈ listedStatuses, st.busy = true → st.kv = true →
    st.blockDone ∈ listedStatuses := by decide

theorem reset_listed : Status.reset ∈ listedStatuses := by decide

theorem listed_hostWrite {s : State} (idx : RegIdx) (v : Block64) (h : s.arch.status ∈ listedStatuses) :
    (hostWrite idx v s).arch.status ∈ listedStatuses := by
  cases idx
  case cmd =>
    obtain ⟨hbusy, he⟩ | ⟨hidle, -, he⟩ | ⟨hidle, hkv, he⟩ | ⟨hidle, he⟩ | ⟨hidle, -, dir, he⟩ :=
      cmdWrite_cases v s <;> rw [hostWrite, he]
    · exact overrun_listed _ h hbusy
    · exact illegal_listed _ h hidle
    · exact noKey_listed _ h hidle hkv
    · exact started_listed _ h hidle
    · exact started_listed _ h hidle
  all_goals exact h

/-- A completion finds BUSY = 1, and a block operation's KV = 1 (R48 (1) and (7)). -/
theorem listed_of_finishes {a b : Arch} (hinv : a.Inv) (h : a.status ∈ listedStatuses) (hfin : Finishes a b) :
    b.status ∈ listedStatuses := by
  cases hfin with
  | key k sc hp => exact keyDone_listed _ h (hinv.busy_iff.mpr (by simp [hp]))
  | block dir x v hp =>
    exact blockDone_listed _ h (hinv.busy_iff.mpr (by simp [hp])) (hinv.block_has_key dir x hp)

theorem listed_of_archEvent {s : State} {a : Arch} (hinv : s.arch.Inv) (h : s.arch.status ∈ listedStatuses)
    (hev : ArchEvent s a) : a.status ∈ listedStatuses := by
  cases hev with
  | silent => exact h
  | write => exact listed_hostWrite _ _ h
  | finish a hfin => exact listed_of_finishes hinv h hfin
  | reset => exact reset_listed

/-- Settles O25: each architectural event takes a listed status to a listed one. -/
theorem listedStatusValuesKept : Obligations.ListedStatusValuesKept := by
  intro s t hinv hmem hstep
  rw [word_mem_iff] at hmem ⊢
  exact listed_of_archEvent hinv hmem (archEvent_of_step hstep)

/-! ### The values runs reach -/

/-- R48 and R262 hold of every state a run reaches. -/
theorem reachable_inv_listed {s : State} (h : Reachable s) : s.arch.Inv ∧ s.arch.status.word ∈ statusValues := by
  induction h with
  | start host sched => exact ⟨inv_reset _, (word_mem_iff _).mpr reset_listed⟩
  | next s t _ hstep ih =>
    exact ⟨statusInvariantsKept s t ih.1 hstep, listedStatusValuesKept s t ih.1 ih.2 hstep⟩

/-- What a run from a reachable state reaches is reachable. -/
theorem reachable_of_runsTo {n : Nat} {s t : State} (h : Reachable s) (hrun : runsTo n s t) : Reachable t := by
  induction n generalizing s with
  | zero => cases hrun; exact h
  | succ n ih =>
    obtain ⟨u, hstep, hrest⟩ := runsTo_succ_iff.mp hrun
    exact ih (.next s u h hstep) hrest

/-- A host program that visits every listed value: both rejections and a start without a key, a start and a rejection
with one, and commands lost in flight. -/
def tourHost : List HostItem :=
  [.txn 0x80000000000000004, .txn 0x80000000000000002, .txn 0x80000000000000001, .txn 0x80000000000000001,
   .txn 0x80000000000000002, .txn 0x80000000000000002, .txn 0x80000000000000004, .txn 0x80000000000000002]

/-- The order of its events: the Engine completes after each loss, and at the end. -/
def tourSched : List Turn :=
  [.host, .host, .host, .host, .engine, .host, .host, .engine, .host, .host, .engine]

/-- The state the tour starts from. -/
def tour : State := { State.reset with host := tourHost, sched := tourSched }

/-- Each listed value is the STATUS after some number of steps of the tour. -/
theorem tour_visits : ∀ w ∈ statusValues, ∃ n t, runsTo n tour t ∧ t.arch.status.word = w := by
  simp only [statusValues, List.forall_mem_cons, List.not_mem_nil, false_imp_iff, implies_true, and_true]
  exact ⟨⟨0, _, rfl, rfl⟩, ⟨3, _, rfl, rfl⟩, ⟨6, _, rfl, rfl⟩, ⟨11, _, rfl, rfl⟩, ⟨1, _, rfl, rfl⟩, ⟨9, _, rfl, rfl⟩,
    ⟨2, _, rfl, rfl⟩, ⟨4, _, rfl, rfl⟩, ⟨7, _, rfl, rfl⟩, ⟨5, _, rfl, rfl⟩⟩

/-- Settles O26: every reachable state meets R48 and R262, and one run visits all ten values. -/
theorem reachableStatusValues : Obligations.ReachableStatusValues := by
  refine fun w => ⟨fun ⟨s, hs, hw⟩ => hw ▸ (reachable_inv_listed hs).2, fun hw => ?_⟩
  obtain ⟨n, t, hrun, ht⟩ := tour_visits w hw
  exact ⟨t, reachable_of_runsTo (.start tourHost tourSched) hrun, ht⟩

end Sys2Proof.Proofs.StatusInvariants
end

section
/-! PROOFS. What the next step is, by whose turn it is (R78, R105, R268 to R273, R330). -/

namespace Sys2Proof.Proofs.Turns

open Sys2Proof.Machine Sys2Proof.Proofs.Completion Sys2Proof.Proofs.SequencerRefinement
  Sys2Proof.Proofs.StatusInvariants

/-! ### From the fetched event to the step -/

theorem step_of_fetch_run {s u : State} {i : Instr} (h : fetch s = .run i u) : step s = exec i u := by
  rw [step, h]

theorem step_of_fetch_event {s t : State} (h : fetch s = .event t) : step s = .next t := by
  rw [step, h]

theorem step_of_reset {s : State} {rest : List Turn} (hs : s.sched = .reset :: rest) :
    step s = .next (resetEvent { s with sched := rest }) :=
  step_of_fetch_event (by rw [fetch, hs])

theorem fetch_of_host {s : State} {rest : List Turn} (hs : s.sched = .host :: rest) :
    fetch s = hostTurn { s with sched := rest } := by
  rw [fetch, hs]

/-- With the schedule spent and nothing in flight the Host moves (log entry 5). -/
theorem fetch_of_idle {s : State} (hs : s.sched = []) (hp : s.arch.pend = .none) : fetch s = hostTurn s := by
  rw [fetch, hs]; simp only [defaultTurn, hp]

/-- With the schedule spent and an operation in flight the Engine moves (log entry 5). -/
theorem step_of_inFlight {s : State} (hs : s.sched = []) (hp : s.arch.pend ≠ .none) : step s = .next (complete s) := by
  refine step_of_fetch_event ?_
  rw [fetch, hs]
  rcases hpend : s.arch.pend with _ | k | ⟨dir, b⟩
  · exact absurd hpend hp
  all_goals simp only [defaultTurn, hpend]

theorem hostTurn_txn {s : State} {w : Txn68} {rest : List HostItem} (hh : s.host = .txn w :: rest) :
    hostTurn s = .run (decodeHost w) { s with host := rest } := by
  rw [hostTurn, hh]

theorem uopTurn_ok {u : Select8} {i : Instr} (h : decode (.uop8 u) = .ok i) (s : State) : uopTurn u s = .run i s := by
  rw [uopTurn, h]

/-- A select word that is no instruction is refused under its own name (R105). -/
theorem decodeUop_error {u : Select8} {e : DecodeError} (h : decodeUop u = .error e) : e = .reservedSelect u := by
  unfold decodeUop at h
  split at h <;> cases h
  rfl

/-- A select word is a defined turn when it names an instruction. -/
theorem exists_instr_of_turnDefined {u : Select8} (h : turnDefined (.uop u) = true) : ∃ i, decodeUop u = .ok i := by
  rcases hd : decodeUop u with e | i
  · rw [turnDefined, hd] at h; cases h
  · exact ⟨i, rfl⟩

theorem step_of_reservedSelect {s : State} {u : Select8} {rest : List Turn} (hs : s.sched = .uop u :: rest)
    (h : decode (.uop8 u) = .error (.reservedSelect u)) : step s = .refused (.reservedSelect u) := by
  simp only [step, fetch, hs, uopTurn, h]

/-- Settles O12: the Engine's turn is Complete, case by case of PEND. -/
theorem engineTurnCompletes : Obligations.EngineTurnCompletes := by
  intro s rest hs
  rw [step_of_engine hs]
  refine ⟨fun hp => ?_, fun k hp => ?_, fun b hp => ?_, fun b hp => ?_⟩ <;> congr 1
  · rw [complete, complete_of_none hp]
  · rw [complete, complete_of_ks hp]; rfl
  · rw [complete, complete_of_blk hp]; rfl
  · rw [complete, complete_of_blk hp]; rfl

/-- Settles O21: the turn is the Reset event, which leaves Arch.reset. -/
theorem resetEventAborts : Obligations.ResetEventAborts :=
  fun _ _ hs => ⟨_, step_of_reset hs, rfl, rfl, rfl, _, rfl⟩

/-! ### A step runs the decoded instruction -/

theorem step_placeNext {c : Encoded} {i : Instr} (h : decode c = .ok i) (s : State) :
    step (placeNext c s) = exec i s := by
  cases c with
  | host68 w =>
    cases h
    exact step_of_fetch_run ((fetch_of_host rfl).trans (hostTurn_txn rfl))
  | uop8 u => exact step_of_fetch_run (uopTurn_ok h s)

theorem step_withFetchWord {nbits w : Nat} {i : Instr} (h : decodeTableWord nbits w = some i) (s : State) :
    step (s.withFetchWord nbits w) = exec i s := by
  unfold decodeTableWord at h
  unfold State.withFetchWord
  rcases hc : encodedOfTable nbits w with _ | c <;> simp only [hc] at h
  · cases h
  · rcases hd : decode c with e | j <;> rw [hd] at h <;> cases h
    exact step_placeNext hd s

/-- Settles O60: by the turn that fetches the word. -/
theorem stepRunsTheDecodedInstruction : Obligations.StepRunsTheDecodedInstruction := by
  refine ⟨fun s w i host sched hh hs hd => ?_, fun s w i host hh hs hp hd => ?_, fun s u i sched hs hd => ?_,
    fun s w i h => step_withFetchWord h s, fun s u i h => step_withFetchWord h s⟩
  · cases hd
    exact step_of_fetch_run ((fetch_of_host hs).trans (hostTurn_txn hh))
  · cases hd
    exact step_of_fetch_run ((fetch_of_idle hs hp).trans (hostTurn_txn hh))
  · exact step_of_fetch_run (by rw [fetch, hs]; exact uopTurn_ok hd _)

/-! ### What a turn of the Host leaves -/

/-- What a step does to the Host's program `host`: nothing, one transaction issued, or a POLL ended by a read of
BUSY = 0. -/
inductive HostProgress (host : List HostItem) (t : State) : Prop where
  | stays (h : t.host = host)
  | issued (w : Txn68) (h : host = .txn w :: t.host)
  | polled (h : host = .poll :: t.host) (v : Block64) (vs : List Block64) (hret : t.returned = v :: vs)
      (hidle : v.getLsbD 0 = false)

/-- A Host's turn at a transaction issues it. -/
theorem step_of_txn {s u : State} {w : Txn68} {rest : List HostItem} (hf : fetch s = hostTurn u)
    (hh : u.host = .txn w :: rest) : ∃ t, step s = .next t ∧ t.sched = u.sched ∧ t.host = rest := by
  have hstep := step_of_fetch_run (hf.trans (hostTurn_txn hh))
  rw [exec_decodeHost] at hstep
  obtain ⟨-, hhost, hsched, -⟩ := hostWrite_frame (RegIdx.ofIndex (txnIndex w)) (txnData w) { u with host := rest }
  split at hstep
  · exact ⟨_, hstep, hsched, hhost⟩
  · exact ⟨_, hstep, rfl, rfl⟩

/-- A Host's turn at a POLL reads STATUS and, when that read finds BUSY = 0, ends the POLL (R109). -/
theorem step_of_poll {s u : State} {rest : List HostItem} (hf : fetch s = hostTurn u) (hh : u.host = .poll :: rest) :
    ∃ host, step s = .next (hostRead .status { u with host := host }) ∧
      (u.arch.status.busy = false ∧ host = rest ∨ u.arch.status.busy = true ∧ host = u.host) := by
  obtain ⟨hbit, -⟩ := statusWordLayout u.arch.status
  rcases hb : u.arch.status.busy <;> rw [hb] at hbit
  · refine ⟨rest, step_of_fetch_run (i := .rdStatus 0) (hf.trans ?_), .inl ⟨rfl, rfl⟩⟩
    simp only [hostTurn, hh, Arch.read, hbit, if_true]
  · refine ⟨u.host, step_of_fetch_run (i := .rdStatus 0) (u := u) (hf.trans ?_), .inr ⟨rfl, rfl⟩⟩
    simp only [hostTurn, hh, Arch.read, hbit, Bool.true_eq_false, if_false]

/-- A Host's turn answers, uses the schedule it was given, and issues at most one item. -/
theorem step_of_hostTurn {s u : State} (hf : fetch s = hostTurn u) :
    ∃ t, step s = .next t ∧ t.sched = u.sched ∧ HostProgress u.host t := by
  rcases hh : u.host with _ | ⟨w | _, rest⟩
  · exact ⟨u, step_of_fetch_event (by rw [hf, hostTurn, hh]), rfl, .stays hh⟩
  · obtain ⟨t, hstep, hsched, hhost⟩ := step_of_txn hf hh
    exact ⟨t, hstep, hsched, .issued w (by rw [hhost])⟩
  · obtain ⟨host, hstep, ⟨hidle, rfl⟩ | ⟨-, rfl⟩⟩ := step_of_poll hf hh
    · exact ⟨_, hstep, rfl, .polled rfl _ _ rfl ((statusWordLayout _).1.trans hidle)⟩
    · exact ⟨_, hstep, rfl, .stays hh⟩

/-- A defined turn answers, is used up, and issues at most one item of the Host's program. -/
theorem step_of_defined_turn {s : State} {turn : Turn} {rest : List Turn} (hs : s.sched = turn :: rest)
    (hdef : turnDefined turn = true) : ∃ t, step s = .next t ∧ t.sched = rest ∧ HostProgress s.host t := by
  cases turn with
  | host => exact step_of_hostTurn (fetch_of_host hs)
  | engine => exact ⟨_, step_of_engine hs, rfl, .stays rfl⟩
  | cycle => exact ⟨_, step_of_cycle hs, rfl, .stays (seqCycle_host s).1⟩
  | reset => exact ⟨_, step_of_reset hs, rfl, .stays rfl⟩
  | uop u =>
    obtain ⟨i, hd⟩ := exists_instr_of_turnDefined hdef
    obtain ⟨f, hf⟩ := exec_decodeUop hd { s with sched := rest }
    exact ⟨_, (step_of_fetch_run (by rw [fetch, hs]; exact uopTurn_ok hd _)).trans hf, rfl, .stays rfl⟩

/-- With the schedule spent a step answers. -/
theorem step_of_spent {s : State} (hs : s.sched = []) : ∃ t, step s = .next t := by
  by_cases hp : s.arch.pend = .none
  · obtain ⟨t, hstep, -⟩ := step_of_hostTurn (fetch_of_idle hs hp)
    exact ⟨t, hstep⟩
  · exact ⟨_, step_of_inFlight hs hp⟩

/-- Settles O59: a step with the schedule spent and one at a defined turn answer, and the other turns are the reserved
select words. -/
theorem onlyReservedSelectsAreRefused : Obligations.OnlyReservedSelectsAreRefused := by
  intro s
  rcases hs : s.sched with _ | ⟨turn, rest⟩
  · exact .inl (step_of_spent hs)
  · by_cases hdef : turnDefined turn = true
    · obtain ⟨t, hstep, -⟩ := step_of_defined_turn hs hdef
      exact .inl ⟨t, hstep⟩
    · cases turn with
      | uop u =>
        rcases hd : decodeUop u with e | i
        · obtain rfl := decodeUop_error hd
          exact .inr ⟨u, rest, rfl, hd, step_of_reservedSelect hs hd⟩
        · exact absurd (by rw [turnDefined, hd]; rfl) hdef
      | host | engine | cycle | reset => exact absurd rfl hdef

end Sys2Proof.Proofs.Turns
end

section
/-! PROOFS. Liveness: schedules are used up, POLL ends, and so does every host program (R109, R271, R272). -/

namespace Sys2Proof.Proofs.Liveness

open Sys2Proof.Machine Sys2Proof.Proofs.Runs Sys2Proof.Proofs.SequencerRefinement Sys2Proof.Proofs.StatusInvariants
  Sys2Proof.Proofs.Turns

/-! ### The schedule -/

/-- One defined turn, with what a run keeps: R48 and the definedness of what is left. -/
theorem turn_progress {s : State} {turn : Turn} {rest : List Turn} (hinv : s.arch.Inv) (hs : s.sched = turn :: rest)
    (hdef : ∀ turn ∈ s.sched, turnDefined turn = true) :
    ∃ t, step s = .next t ∧ t.sched = rest ∧ HostProgress s.host t ∧ t.arch.Inv ∧
      ∀ turn ∈ t.sched, turnDefined turn = true := by
  rw [hs, List.forall_mem_cons] at hdef
  obtain ⟨t, hstep, hsched, hprog⟩ := step_of_defined_turn hs hdef.1
  exact ⟨t, hstep, hsched, hprog, statusInvariantsKept s t hinv hstep, hsched ▸ hdef.2⟩

/-- A step lengthens no host program. -/
theorem host_length_le {host : List HostItem} {t : State} (h : HostProgress host t) :
    t.host.length ≤ host.length := by
  cases h with
  | stays h => rw [h]
  | issued w h => simp [h]
  | polled h => simp [h]

/-- A schedule of defined turns is used up, a turn a step. -/
theorem schedule_used_up {s : State} (hinv : s.arch.Inv) (hdef : ∀ turn ∈ s.sched, turnDefined turn = true) :
    ∃ t, runsTo s.sched.length s t ∧ t.sched = [] ∧ t.arch.Inv ∧ t.host.length ≤ s.host.length := by
  generalize hs : s.sched = sched
  induction sched generalizing s with
  | nil => exact ⟨s, rfl, hs, hinv, le_rfl⟩
  | cons turn rest ih =>
    obtain ⟨u, hstep, hsched, hprog, hinv', hdef'⟩ := turn_progress hinv hs hdef
    obtain ⟨t, hrun, ht, hinv'', hlen⟩ := ih hinv' hdef' hsched
    exact ⟨t, runsTo_succ hstep hrun, ht, hinv'', hlen.trans (host_length_le hprog)⟩

/-- After it, the Engine ends what is in flight, in at most one step. -/
theorem engine_idles {s : State} (hinv : s.arch.Inv) (hs : s.sched = []) :
    ∃ n t, n ≤ 1 ∧ runsTo n s t ∧ t.sched = [] ∧ t.arch.Inv ∧ t.arch.pend = .none ∧ t.host = s.host := by
  by_cases hp : s.arch.pend = .none
  · exact ⟨0, s, by omega, rfl, hs, hinv, hp, rfl⟩
  · have hstep := step_of_inFlight hs hp
    exact ⟨1, complete s, le_rfl, runsTo_one hstep, hs, statusInvariantsKept _ _ hinv hstep, complete_pend _, rfl⟩

/-- Settles O31: if the schedule ends with an operation still in flight, the next step is the Engine's. -/
theorem operationInFlightEnds : Obligations.OperationInFlightEnds := by
  intro s hinv _ hdef
  obtain ⟨u, hrun, hs, hinv', -⟩ := schedule_used_up hinv hdef
  obtain ⟨n, t, hn, hrun', -, -, hp, -⟩ := engine_idles hinv' hs
  exact ⟨_, t, by omega, runsTo_add hrun hrun', hp⟩

/-! ### The Host's program -/

/-- With the schedule spent and nothing in flight a step issues the Host's next item: a POLL too, whose read finds
BUSY = 0 (R48 (1)). -/
theorem item_issued {s : State} {item : HostItem} {rest : List HostItem} (hinv : s.arch.Inv) (hs : s.sched = [])
    (hp : s.arch.pend = .none) (hh : s.host = item :: rest) :
    ∃ t, step s = .next t ∧ t.sched = [] ∧ t.host = rest := by
  have hf := fetch_of_idle hs hp
  cases item with
  | txn w => exact hs ▸ step_of_txn hf hh
  | poll =>
    obtain ⟨host, hstep, ⟨-, rfl⟩ | ⟨hbusy, -⟩⟩ := step_of_poll hf hh
    · exact ⟨_, hstep, hs, rfl⟩
    · exact absurd hp (hinv.busy_iff.mp hbusy)

/-- With the schedule spent the program runs out: two steps an item, for a command may start an operation. -/
theorem host_drained {s : State} (hinv : s.arch.Inv) (hs : s.sched = []) (hp : s.arch.pend = .none) :
    ∃ n t, n ≤ 2 * s.host.length ∧ runsTo n s t ∧ t.sched = [] ∧ t.host = [] ∧ t.arch.pend = .none := by
  generalize hh : s.host = host
  induction host generalizing s with
  | nil => exact ⟨0, s, by simp, rfl, hs, hh, hp⟩
  | cons item rest ih =>
    obtain ⟨u, hstep, hsu, hhu⟩ := item_issued hinv hs hp hh
    obtain ⟨m, v, hm, hrun, hsv, hinv', hpv, hhv⟩ := engine_idles (statusInvariantsKept s u hinv hstep) hsu
    obtain ⟨n, t, hn, hrun', hdone⟩ := ih hinv' hsv hpv (hhv.trans hhu)
    refine ⟨m + n + 1, t, ?_, runsTo_succ hstep (runsTo_add hrun hrun'), hdone⟩
    rw [List.length_cons]
    omega

/-- With everything spent the machine stays as it is (R272). -/
theorem step_of_done {s : State} (hs : s.sched = []) (hh : s.host = []) (hp : s.arch.pend = .none) :
    step s = .next s :=
  step_of_fetch_event (by rw [fetch_of_idle hs hp, hostTurn, hh])

/-- Settles O33: the schedule is used up, then the Engine idles, then the program runs out. -/
theorem everyHostProgramEnds : Obligations.EveryHostProgramEnds := by
  intro s hinv hdef
  obtain ⟨u, hrun, hsu, hinv', hlen⟩ := schedule_used_up hinv hdef
  obtain ⟨m, v, hm, hrun', hsv, hinv'', hpv, hhv⟩ := engine_idles hinv' hsu
  obtain ⟨n, t, hn, hrun'', hst, hht, hpt⟩ := host_drained hinv'' hsv hpv
  rw [hhv] at hn
  exact ⟨s.sched.length + m + n, t, by omega, runsTo_add (runsTo_add hrun hrun') hrun'', hst, hht, hpt,
    step_of_done hst hht hpt⟩

/-! ### POLL -/

/-- The state a POLL leaves the Host in: it has gone, and the read it ended with has BUSY = 0 (R109). -/
def PollEnded (rest : List HostItem) (t : State) : Prop :=
  t.host = rest ∧ ∃ v vs, t.returned = v :: vs ∧ v.getLsbD 0 = false

/-- With the schedule spent and nothing in flight the next read ends the POLL. -/
theorem poll_ends_idle {s : State} {rest : List HostItem} (hinv : s.arch.Inv) (hs : s.sched = [])
    (hp : s.arch.pend = .none) (hh : s.host = .poll :: rest) : ∃ t, step s = .next t ∧ PollEnded rest t := by
  obtain ⟨host, hstep, ⟨hidle, rfl⟩ | ⟨hbusy, -⟩⟩ := step_of_poll (fetch_of_idle hs hp) hh
  · exact ⟨_, hstep, rfl, _, _, rfl, (statusWordLayout _).1.trans hidle⟩
  · exact absurd hp (hinv.busy_iff.mp hbusy)

/-- A turn at a POLL leaves it standing or ends it. -/
theorem poll_stands_or_ends {t : State} {rest : List HostItem} (hprog : HostProgress (.poll :: rest) t) :
    t.host = .poll :: rest ∨ PollEnded rest t := by
  cases hprog with
  | stays h => exact .inl h
  | issued w h => cases h
  | polled h v vs hret hidle => cases h; exact .inr ⟨rfl, v, vs, hret, hidle⟩

theorem poll_ends {s : State} {rest : List HostItem} (hinv : s.arch.Inv) (hh : s.host = .poll :: rest)
    (hdef : ∀ turn ∈ s.sched, turnDefined turn = true) :
    ∃ n t, n ≤ s.sched.length + 2 ∧ runsTo n s t ∧ PollEnded rest t := by
  generalize hs : s.sched = sched
  induction sched generalizing s with
  | nil =>
    obtain ⟨m, u, hm, hrun, hsu, hinv', hp, hhu⟩ := engine_idles hinv hs
    obtain ⟨t, hstep, hend⟩ := poll_ends_idle hinv' hsu hp (hhu.trans hh)
    exact ⟨m + 1, t, by omega, runsTo_add hrun (runsTo_one hstep), hend⟩
  | cons turn sched ih =>
    obtain ⟨u, hstep, hsu, hprog, hinv', hdef'⟩ := turn_progress hinv hs hdef
    obtain hstands | hend := poll_stands_or_ends (hh ▸ hprog)
    · obtain ⟨n, t, hn, hrun, hend⟩ := ih hinv' hstands hdef' hsu
      exact ⟨n + 1, t, by rw [List.length_cons]; omega, runsTo_succ hstep hrun, hend⟩
    · exact ⟨1, u, by omega, runsTo_one hstep, hend⟩

/-- Settles O32: a scheduled read ends the POLL, or the first read after the Engine has idled does. -/
theorem pollEnds : Obligations.PollEnds := by
  intro s rest hinv hh hdef
  obtain ⟨n, t, hn, hrun, hrest, v, vs, hret, hidle⟩ := poll_ends hinv hh hdef
  exact ⟨n, t, v, vs, hn, hrun, hrest, hret, hidle⟩

end Sys2Proof.Proofs.Liveness
end

section
/-! PROOFS. The decoder and the encoder undo each other (R100 to R105, R110). -/

namespace Sys2Proof.Proofs.EncodingRoundTrip

open Sys2Proof.Proofs.Encoding

/-! ### Host transactions -/

/-- The three fields of R100 read back from the record they make. -/
theorem txn_fields (b : Bool) (idx : BitVec 3) (d : Block64) :
    txnIsWrite (BitVec.ofBool b ++ idx ++ d) = b ∧ txnIndex (BitVec.ofBool b ++ idx ++ d) = idx ∧
      txnData (BitVec.ofBool b ++ idx ++ d) = d := by
  refine ⟨?_, BitVec.eq_of_getLsbD_eq fun j hj => ?_, BitVec.extractLsb'_append_eq_right⟩
  · rw [txnIsWrite]
    simp only [BitVec.getLsbD_append]
    simp
  · rw [txnIndex, BitVec.getLsbD_extractLsb']
    simp only [BitVec.getLsbD_append]
    simp [hj]

/-- A record is its three fields (R100). -/
theorem txn_eq_fields (w : Txn68) : BitVec.ofBool (txnIsWrite w) ++ txnIndex w ++ txnData w = w := by
  have hbit : BitVec.ofBool (txnIsWrite w) = w.extractLsb' 67 1 := by
    refine BitVec.eq_of_getLsbD_eq fun j hj => ?_
    obtain rfl : j = 0 := by omega
    simp [txnIsWrite]
  rw [hbit, txnIndex, txnData, BitVec.extractLsb'_append_extractLsb'_eq_extractLsb' (start₁ := 64) (len₁ := 3) rfl,
    BitVec.extractLsb'_append_extractLsb'_eq_extractLsb' (start₁ := 0) (len₁ := 64) rfl]
  exact BitVec.extractLsb'_eq_self

@[simp] theorem ofIndex_index (idx : RegIdx) : RegIdx.ofIndex idx.index = idx := by cases idx <;> rfl

@[simp] theorem index_ofIndex (i : BitVec 3) : (RegIdx.ofIndex i).index = i := by
  revert i; decide

/-- The instruction of a transaction, by its fields (R100, R101). -/
def txnInstr (isWrite : Bool) (idx : RegIdx) (d : Block64) : Instr :=
  if isWrite then writeInstr idx d else readInstr idx d

theorem decode_encodeTxn (b : Bool) (idx : RegIdx) (d : Block64) :
    decode (encodeTxn b idx d) = .ok (txnInstr b idx d) := by
  obtain ⟨hW, hidx, hd⟩ := txn_fields b idx.index d
  rw [encodeTxn, decode, decodeHost, hW, hidx, hd, ofIndex_index, txnInstr]

/-- The one spelling of a CMD write (R102). -/
theorem encode_cmdInstr (v : Block64) : encode (cmdInstr v) = encodeTxn true .cmd v ∧ (cmdInstr v).wf = true := by
  unfold cmdInstr
  obtain ⟨rfl, h⟩ | ⟨rfl, h⟩ | ⟨rfl, h⟩ | ⟨⟨h1, h2, h3⟩, h⟩ := decodeCmd_cases v <;> rw [h]
  · exact ⟨rfl, rfl⟩
  · exact ⟨rfl, rfl⟩
  · exact ⟨rfl, rfl⟩
  · exact ⟨rfl, by simpa [Instr.wf] using ⟨⟨h1, h2⟩, h3⟩⟩

theorem encode_txnInstr (b : Bool) (idx : RegIdx) (d : Block64) :
    encode (txnInstr b idx d) = encodeTxn b idx d ∧ (txnInstr b idx d).wf = true := by
  cases b
  · cases idx <;> exact ⟨rfl, rfl⟩
  · cases idx
    case cmd => exact encode_cmdInstr d
    all_goals exact ⟨rfl, rfl⟩

/-! ### Select words -/

/-- A select word is its two fields (R105). -/
theorem encodeUop_of_fields {u : Select8} {unit sel : BitVec 4} (hunit : (uopUnit u).toNat = unit.toNat)
    (hsel : (uopSel u).toNat = sel.toNat) : encodeUop unit sel = .uop8 u := by
  rw [encodeUop, ← BitVec.eq_of_toNat_eq hunit, ← BitVec.eq_of_toNat_eq hsel, uopUnit, uopSel,
    BitVec.extractLsb'_append_extractLsb'_eq_extractLsb' (start₁ := 0) (len₁ := 4) rfl]
  exact congrArg Encoded.uop8 BitVec.extractLsb'_eq_self

/-- Each row of R105's table is encoded as its own select word. -/
theorem encode_of_decodeUop {u : Select8} {i : Instr} (h : decodeUop u = .ok i) :
    encode i = .uop8 u ∧ i.wf = true := by
  unfold decodeUop at h
  split at h <;> cases h
  all_goals
    rename_i hunit hsel
    exact ⟨encodeUop_of_fields hunit hsel, rfl⟩

/-! ### Both directions -/

/-- Settles O56: a record is the encoding of the transaction its fields make, a select word that of its table row. -/
theorem encodeOfDecode : Obligations.EncodeOfDecode := by
  intro c i h
  cases c with
  | host68 w =>
    cases h
    obtain ⟨henc, hwf⟩ := encode_txnInstr (txnIsWrite w) (RegIdx.ofIndex (txnIndex w)) (txnData w)
    refine ⟨henc.trans ?_, hwf⟩
    rw [encodeTxn, index_ofIndex, txn_eq_fields]
  | uop8 u => exact encode_of_decodeUop h

/-- A well-formed WR_CMD carries an illegal word, which decodes to it (log entry 12). -/
theorem cmdInstr_of_wf {v : Block64} (hwf : (Instr.wrCmd v).wf = true) : cmdInstr v = .wrCmd v := by
  obtain ⟨rfl, -⟩ | ⟨rfl, -⟩ | ⟨rfl, -⟩ | ⟨-, h⟩ := decodeCmd_cases v
  case inr.inr.inr => rw [cmdInstr, h]
  all_goals exact absurd hwf (by decide)

/-- Settles O55: a transaction's record decodes to what its fields name, a select word to its table row. -/
theorem decodeOfEncode : Obligations.DecodeOfEncode := by
  intro i hwf
  cases i
  case rdCmd d | rdStatus d | rdKey d | rdDin d | rdDout d | rdR5 d | rdR6 d | rdR7 d =>
    exact decode_encodeTxn false _ d
  case wrStatus v | wrKey v | wrDin v | wrDout v | wrR5 v | wrR6 v | wrR7 v => exact decode_encodeTxn true _ v
  case wrCmd v => exact (decode_encodeTxn true .cmd v).trans (congrArg _ (cmdInstr_of_wf hwf))
  case keysched | encrypt | decrypt => exact decode_encodeTxn true .cmd _
  all_goals rfl

/-- Settles O58: the decoder evaluated at each word. -/
theorem sampleWordsDecode : Obligations.SampleWordsDecode := by
  unfold Obligations.SampleWordsDecode
  decide

end Sys2Proof.Proofs.EncodingRoundTrip
end

section
/-! PROOFS. KEYSCHED from idle (R169), commands with an operation in flight (R244, R306), and commands after reset
(R333). -/

namespace Sys2Proof.Proofs.Commands

open Sys2Proof.Machine Sys2Proof.Proofs.Exceptions

/-- Settles O8: both spellings are CmdWrite of 0x1, which accepts and starts with KEY as the snapshot. -/
theorem keyschedStarts : Obligations.KeyschedStarts := by
  intro s i hidle hi
  refine ⟨startKeysched (acceptCmd s), ?_, sameOutside_startOp _ (acceptCmd s), rfl⟩
  obtain rfl | rfl := hi <;> exact congrArg _ (cmdWrite_of_idle _ hidle)

/-! ### With an operation in flight -/

/-- What R244 keeps of an operation in flight. -/
def KeepsOperation (a b : Arch) : Prop :=
  b.status.busy = a.status.busy ∧ b.pend = a.pend ∧ b.rk = a.rk ∧ b.dout = a.dout ∧ b.status.kv = a.status.kv ∧
    b.status.done = a.status.done

theorem keepsOperation_hostWrite {s : State} (idx : RegIdx) (v : Block64) (hbusy : s.arch.status.busy = true) :
    KeepsOperation s.arch (hostWrite idx v s).arch := by
  cases idx
  case cmd => rw [hostWrite, cmdWrite_of_busy v hbusy]; exact ⟨rfl, rfl, rfl, rfl, rfl, rfl⟩
  all_goals exact ⟨rfl, rfl, rfl, rfl, rfl, rfl⟩

/-- An instruction is a host read, a host write or a micro-operation (R110). -/
theorem exec_cases (i : Instr) (s : State) :
    (∃ idx, exec i s = .next (hostRead idx s)) ∨ (∃ idx v, exec i s = .next (hostWrite idx v s)) ∨
      ∃ f, exec i s = .next (s.onDatapath f) := by
  cases i
  case rdCmd | rdStatus | rdKey | rdDin | rdDout | rdR5 | rdR6 | rdR7 => exact .inl ⟨_, rfl⟩
  case wrCmd | wrStatus | wrKey | wrDin | wrDout | wrR5 | wrR6 | wrR7 | keysched | encrypt | decrypt =>
    exact .inr (.inl ⟨_, _, rfl⟩)
  all_goals exact .inr (.inr ⟨_, rfl⟩)

/-- Settles O11: reads and micro-operations write nothing architectural, and the writes that remain are of KEY and DIN
and of OVR. -/
theorem instructionsKeepOperationInFlight : Obligations.InstructionsKeepOperationInFlight := by
  intro i s t hbusy hexec
  have hkeeps : KeepsOperation s.arch t.arch := by
    obtain ⟨idx, h⟩ | ⟨idx, v, h⟩ | ⟨f, h⟩ := exec_cases i s <;> cases h.symm.trans hexec
    · exact ⟨rfl, rfl, rfl, rfl, rfl, rfl⟩
    · exact keepsOperation_hostWrite idx v hbusy
    · exact ⟨rfl, rfl, rfl, rfl, rfl, rfl⟩
  exact ⟨hkeeps.1.trans hbusy, hkeeps.2⟩

/-! ### After reset -/

theorem word_of_start_without_key :
    ({ busy := true, kv := false, done := false, err := false, ecode := 0, ovr := false } : Status).word = 0x1 := by
  decide

theorem word_of_noKey :
    ({ busy := false, kv := false, done := false, err := true, ecode := 2, ovr := false } : Status).word = 0x28 := by
  decide

theorem word_of_illegal_without_key :
    ({ busy := false, kv := false, done := false, err := true, ecode := 1, ovr := false } : Status).word = 0x18 := by
  decide

/-- Settles O22: after reset BUSY = KV = 0, so KEYSCHED starts and the other words are rejected. -/
theorem commandsAfterReset : Obligations.CommandsAfterReset := by
  intro s rk hs
  have hidle : s.arch.status.busy = false := by rw [hs]; rfl
  have hkv : s.arch.status.kv = false := by rw [hs]; rfl
  have hpend : s.arch.pend = .none := by rw [hs]; rfl
  have hdout : s.arch.dout = 0 := by rw [hs]; rfl
  refine ⟨?_, ?_, ?_, fun v h1 h2 h3 => ?_, fun d => ⟨_, rfl, congrArg (· :: s.returned) hdout⟩⟩
  · obtain ⟨t, hexec, -, harch⟩ := keyschedStarts s .keysched hidle (.inl rfl)
    rw [hs] at harch
    exact ⟨t, hexec, by rw [harch]; rfl, by rw [harch]; exact word_of_start_without_key⟩
  · exact ⟨_, (blockCommandsStartOrReject s .enc .encrypt hidle (.inl ⟨rfl, .inl rfl⟩)).2 hkv, hpend, word_of_noKey⟩
  · exact ⟨_, (blockCommandsStartOrReject s .dec .decrypt hidle (.inr ⟨rfl, .inl rfl⟩)).2 hkv, hpend, word_of_noKey⟩
  · exact ⟨_, illegalCommandRecorded v s hidle h1 h2 h3, hpend, by rw [hkv]; exact word_of_illegal_without_key⟩

end Sys2Proof.Proofs.Commands
end

section
/-! PROOFS. The permutations in FIPS positions: IP against FP (R135, R136), the multiplexer (R133), and which tables are
admitted (R131, R302). -/

namespace Sys2Proof.Proofs.Permutations

open Sys2Proof.Machine Sys2Proof.Proofs.BitPermutation Sys2Proof.Proofs.Turns

/-! ### FIPS positions -/

/-- FIPS position `i + 1` is bit `i` from the most significant end (R8). -/
theorem fbit_succ {w : Nat} (x : BitVec w) {i : Nat} (hi : i < w) : fbit x (i + 1) = x.getMsbD i := by
  rw [fbit, BitVec.getMsbD, decide_eq_true hi, Bool.true_and, Nat.sub_sub, Nat.add_comm 1 i]

/-- A value is its FIPS positions. -/
theorem eq_of_fbit_eq {w : Nat} {x y : BitVec w} (h : ∀ p < w, fbit x (p + 1) = fbit y (p + 1)) : x = y := by
  refine BitVec.eq_of_getMsbD_eq fun i hi => ?_
  rw [← fbit_succ x hi, ← fbit_succ y hi, h i hi]

/-! ### IP and FP -/

/-- Table `t` sends each position to where table `u` sends it back. -/
def TableInverse {w : Nat} (t u : Vector Nat w) : Prop := ∀ p : Fin w, ∃ q : Fin w, t[p] = q.val + 1 ∧ u[q] = p.val + 1

theorem permute_permute_of_inverse {w : Nat} {t u : Vector Nat w} (h : TableInverse t u) (x : BitVec w) :
    permute t (permute u x) = x := by
  refine eq_of_fbit_eq fun p hp => ?_
  obtain ⟨q, ht, hu⟩ := h ⟨p, hp⟩
  calc fbit (permute t (permute u x)) (p + 1)
      = fbit (permute u x) t[p] := fbit_permute t _ hp
    _ = fbit (permute u x) (q + 1) := congrArg _ ht
    _ = fbit x u[q] := fbit_permute u x q.isLt
    _ = fbit x (p + 1) := congrArg _ hu

theorem tableFP_inverse : TableInverse tableFP tableIP := by unfold TableInverse; decide +kernel

theorem tableIP_inverse : TableInverse tableIP tableFP := by unfold TableInverse; decide +kernel

/-- Settles O37: the two tables are each other's inverse. -/
theorem inversePermutations : Obligations.InversePermutations :=
  fun x => ⟨permute_permute_of_inverse tableFP_inverse x, permute_permute_of_inverse tableIP_inverse x⟩

/-! ### The multiplexer -/

/-- Truncation reads only the bits it keeps. -/
theorem setWidth_congr {w v : Nat} (hw : w ≤ v) {x y : BitVec v} (h : x.extractLsb' 0 w = y.extractLsb' 0 w) :
    x.setWidth w = y.setWidth w := by
  rw [BitVec.setWidth_eq_extractLsb' hw, BitVec.setWidth_eq_extractLsb' hw, h]

/-- Zero extension leaves zeros above the value. -/
theorem extractLsb'_setWidth_high {w : Nat} (x : BitVec w) (v n : Nat) : (x.setWidth v).extractLsb' w n = 0 := by
  refine BitVec.eq_of_getLsbD_eq fun j hj => ?_
  rw [BitVec.getLsbD_extractLsb', BitVec.getLsbD_setWidth, BitVec.getLsbD_of_ge x (w + j) (by omega)]
  simp

/-- Settles O47: PERMUX truncates its input to Win bits and zero-extends the permutation of them. -/
theorem multiplexerIgnoresHighBits : Obligations.MultiplexerIgnoresHighBits := by
  refine ⟨fun x x' h => ?_, fun x x' h => ?_, fun x => ⟨?_, ?_, ?_, ?_⟩⟩
  · have hlow := setWidth_congr (by decide) h
    exact ⟨by rw [permux, permux, hlow], by rw [permux, permux, hlow]⟩
  · rw [permux, permux, setWidth_congr (by decide) h]
  all_goals exact extractLsb'_setWidth_high _ 64 _

/-! ### Admission -/

theorem tableWf_iff {win wout : Nat} {t : Vector Nat wout} :
    tableWf win t = true ↔ ∀ p ∈ t.toList, 1 ≤ p ∧ p ≤ win := by
  rw [tableWf, List.all_eq_true]
  simp only [decide_eq_true_eq]

theorem powerOn_of_wf {t : TableSet} (h : t.wf = true) : powerOn t = .next State.reset := if_pos h

theorem powerOn_of_not_wf {t : TableSet} (h : ¬ t.wf = true) : powerOn t = .fault .malformedTable := if_neg h

theorem powerOn_eq_next_iff {t : TableSet} : powerOn t = .next State.reset ↔ t.wf = true := by
  refine ⟨fun h => by_contra fun hwf => ?_, powerOn_of_wf⟩
  rw [powerOn_of_not_wf hwf] at h
  cases h

/-- A step that is not refused answers a next state, so none faults (R272). -/
theorem step_ne_fault (s : State) (r : Fault) : step s ≠ .fault r := by
  intro hfault
  obtain ⟨t, h⟩ | ⟨u, rest, -, -, h⟩ := onlyReservedSelectsAreRefused s <;> rw [h] at hfault <;> cases hfault

/-- Settles O45: admission is R131's check, clause by clause, which the hardware's tables pass. -/
theorem onlyWellFormedTablesAdmitted : Obligations.OnlyWellFormedTablesAdmitted := by
  refine ⟨powerOn_of_wf hardwareTables_wf, step_ne_fault, fun t => ⟨?_, ?_⟩⟩
  · by_cases h : t.wf = true
    · exact .inl (powerOn_of_wf h)
    · exact .inr (powerOn_of_not_wf h)
  · rw [powerOn_eq_next_iff]
    simp only [TableSet.wf, Bool.and_eq_true, tableWf_iff, and_assoc]

end Sys2Proof.Proofs.Permutations
end

section
/-! PROOFS. Byte streams at the host's boundary (R73). -/

namespace Sys2Proof.Proofs.ByteStreams

open Sys2Proof.Machine Sys2Proof.Proofs.Permutations

/-- Byte `j` of a register value holds FIPS positions `8j + 1` to `8j + 8`. -/
theorem fbit_bytesOfBlock (v : Block64) (j i : Fin 8) :
    fbit (bytesOfBlock v)[j] (i.val + 1) = fbit v (8 * j.val + (i.val + 1)) := by
  have hlt : 8 - (i.val + 1) < 8 := by omega
  have hidx : 56 - 8 * j.val + (8 - (i.val + 1)) = 64 - (8 * j.val + (i.val + 1)) := by omega
  simp only [fbit, bytesOfBlock, Fin.getElem_fin, Vector.getElem_ofFn, BitVec.getLsbD_extractLsb', hlt, hidx,
    decide_true, Bool.true_and]

/-- Byte `j` of the register value of a stream is the stream's byte `j`. -/
theorem bytesOfBlock_blockOfBytes (b : Vector (BitVec 8) 8) : bytesOfBlock (blockOfBytes b) = b := by
  refine Vector.ext fun j hj => ?_
  rw [bytesOfBlock, Vector.getElem_ofFn, blockOfBytes]
  interval_cases j <;>
    simp (disch := decide) only [BitVec.extractLsb'_append_eq_of_le, BitVec.extractLsb'_append_eq_of_add_le,
      Nat.reduceMul, Nat.reduceSub, BitVec.extractLsb'_eq_self]

/-- A register value is its bytes. -/
theorem bytesOfBlock_injective : Function.Injective bytesOfBlock := by
  intro v v' h
  refine eq_of_fbit_eq fun p hp => ?_
  have hj : p / 8 < 8 := by omega
  have hi : p % 8 < 8 := by omega
  have hbyte := fbit_bytesOfBlock v ⟨p / 8, hj⟩ ⟨p % 8, hi⟩
  rw [h, fbit_bytesOfBlock] at hbyte
  have hp8 : 8 * (p / 8) + (p % 8 + 1) = p + 1 := by omega
  simpa only [hp8] using hbyte.symm

/-- Settles O48: the stream of a register value is big-endian, and the two maps are each other's inverse. -/
theorem byteStreamIsBigEndian : Obligations.ByteStreamIsBigEndian := by
  refine ⟨fun b j i => ?_, bytesOfBlock_blockOfBytes, fun v => bytesOfBlock_injective (bytesOfBlock_blockOfBytes _)⟩
  rw [← fbit_bytesOfBlock, bytesOfBlock_blockOfBytes]

end Sys2Proof.Proofs.ByteStreams
end

section
/-! PROOFS. The S-boxes and the lanes of the S-layer (R106, R192 to R204), and the micro-operations on the datapath
(R105, R133 to R141, R162, R191, R206 to R208). -/

namespace Sys2Proof.Proofs.MicroOps

open Sys2Proof.Machine

/-! ### S-box rows (R204) -/

/-- No row of an S-box repeats a value. -/
theorem sbox_row_injective :
    ∀ (i : Fin 8) (row : Fin 4), Function.Injective fun col : Fin 16 => sboxTables[i][row][col] := by
  decide +kernel

/-- Settles O44: a row's sixteen distinct nibbles are all the nibbles. -/
theorem sboxRowsArePermutations : Obligations.SboxRowsArePermutations := by
  intro i row v
  have hinj := sbox_row_injective i row
  have hbij := hinj.bijective_of_nat_card_le (by
    rw [Nat.card_eq_fintype_card, Nat.card_eq_fintype_card]; decide)
  exact ⟨hbij.surjective v, fun col col' h h' => hinj (h.trans h'.symm)⟩

/-! ### Units that copy their operands' function -/

/-- Settles O49: PERM drives Y with PERMUX of X, whose six cases are the six permutations. -/
theorem permMicroOpsDriveY : Obligations.PermMicroOpsDriveY :=
  fun _ => ⟨rfl, rfl, rfl, rfl, rfl, rfl⟩

/-- Settles O52: each Feistel unit is its function of its own latches. -/
theorem feistelMicroOps : Obligations.FeistelMicroOps := fun _ => ⟨rfl, rfl, rfl, rfl⟩

/-- Settles O53: every row of R105's table acts on the datapath. -/
theorem microOpsWriteOnlyTheDatapath : Obligations.MicroOpsWriteOnlyTheDatapath := by
  intro u i s h
  obtain ⟨f, hf⟩ := exec_decodeUop h s
  exact ⟨f s.dp, hf⟩

/-! ### Rotation (R162) -/

/-- Rotating left by `n` moves the top `n` bits to the bottom. -/
theorem rotl28_eq_append (h : Half28) {n m : Nat} (hnm : m + n = 28) :
    rotl28 h n = (h.extractLsb' 0 m ++ h.extractLsb' m n).cast hnm := by
  refine BitVec.eq_of_getLsbD_eq fun j hj => ?_
  have hm : 28 - n = m := by omega
  rw [rotl28, hm, BitVec.getLsbD_or, BitVec.getLsbD_shiftLeft, BitVec.getLsbD_ushiftRight, BitVec.getLsbD_cast,
    BitVec.getLsbD_append, BitVec.getLsbD_extractLsb', BitVec.getLsbD_extractLsb']
  split_ifs with hlt
  · simp [hlt]
  · have hhigh : h.getLsbD (m + j) = false := BitVec.getLsbD_of_ge h _ (by omega)
    have hin : j - n < m := by omega
    simp [hlt, hj, hhigh, hin]

/-- Settles O50: the two rotations of R107, as a slice moved from top to bottom. -/
theorem rotationMicroOps : Obligations.RotationMicroOps := by
  refine fun s => ⟨?_, ?_⟩
  · exact congrArg (fun r => Host.Outcome.next { s with dp := { s.dp with hRot := r } })
      (rotl28_eq_append s.dp.h (n := 1) (m := 27) rfl)
  · exact congrArg (fun r => Host.Outcome.next { s with dp := { s.dp with hRot := r } })
      (rotl28_eq_append s.dp.h (n := 2) (m := 26) rfl)

/-! ### The S-layer's lanes (R106) -/

theorem laneLsb_le (lane : Fin 8) : laneLsb lane ≤ 28 := by rw [laneLsb]; omega

/-- Writing a lane writes its four bits and no other (R106, R203). -/
theorem getLsbD_setLane (lane : Fin 8) (v : Nibble) (s : HalfBlock32) {j : Nat} (hj : j < 32) :
    (setLane lane v s).getLsbD j =
      if laneLsb lane ≤ j ∧ j < laneLsb lane + 4 then v.getLsbD (j - laneLsb lane) else s.getLsbD j := by
  have hmask : ∀ i < 32, (0xF#32).getLsbD i = decide (i < 4) := by decide
  have hsub : j - laneLsb lane < 32 := by omega
  rw [setLane, BitVec.getLsbD_or, BitVec.getLsbD_and, BitVec.getLsbD_not, BitVec.getLsbD_shiftLeft,
    BitVec.getLsbD_shiftLeft, hmask _ hsub, BitVec.getLsbD_setWidth]
  by_cases hlow : j < laneLsb lane
  · have hout : ¬ (laneLsb lane ≤ j ∧ j < laneLsb lane + 4) := by omega
    simp [hlow, hout, hj]
  · by_cases hhigh : j < laneLsb lane + 4
    · have hin : laneLsb lane ≤ j ∧ j < laneLsb lane + 4 := by omega
      have hbit : j - laneLsb lane < 4 := by omega
      simp [hlow, hin, hj, hsub, hbit]
    · have hout : ¬ (laneLsb lane ≤ j ∧ j < laneLsb lane + 4) := by omega
      have hbit : ¬ j - laneLsb lane < 4 := by omega
      have hzero : v.getLsbD (j - laneLsb lane) = false := BitVec.getLsbD_of_ge v _ (by omega)
      simp [hlow, hout, hj, hbit, hzero]

/-- The value of lane `lane` of the S-layer's output. -/
def laneOf (lane : Fin 8) (x : HalfBlock32) : Nibble := x.extractLsb' (laneLsb lane) 4

theorem laneOf_setLane_same (lane : Fin 8) (v : Nibble) (s : HalfBlock32) : laneOf lane (setLane lane v s) = v := by
  refine BitVec.eq_of_getLsbD_eq fun j hj => ?_
  have hle := laneLsb_le lane
  rw [laneOf, BitVec.getLsbD_extractLsb', getLsbD_setLane lane v s (by omega), if_pos (by omega), decide_eq_true hj,
    Bool.true_and, Nat.add_sub_cancel_left]

theorem laneOf_setLane_of_ne {lane lane' : Fin 8} (hne : lane ≠ lane') (v : Nibble) (s : HalfBlock32) :
    laneOf lane (setLane lane' v s) = laneOf lane s := by
  refine BitVec.eq_of_getLsbD_eq fun j hj => ?_
  have hle := laneLsb_le lane
  have hout : ¬ (laneLsb lane' ≤ laneLsb lane + j ∧ laneLsb lane + j < laneLsb lane' + 4) := by
    simp only [laneLsb]
    omega
  rw [laneOf, laneOf, BitVec.getLsbD_extractLsb', BitVec.getLsbD_extractLsb', getLsbD_setLane lane' v s (by omega),
    if_neg hout]

/-- An output of the S-layer is its eight lanes. -/
theorem eq_of_laneOf_eq {x y : HalfBlock32} (h : ∀ lane, laneOf lane x = laneOf lane y) : x = y := by
  refine BitVec.eq_of_getLsbD_eq fun j hj => ?_
  have hlane : 7 - j / 4 < 8 := by omega
  have hbit : laneLsb ⟨7 - j / 4, hlane⟩ + j % 4 = j := by simp only [laneLsb]; omega
  have hlt : j % 4 < 4 := by omega
  have heq := congrArg (fun v : Nibble => v.getLsbD (j % 4)) (h ⟨7 - j / 4, hlane⟩)
  simpa only [laneOf, BitVec.getLsbD_extractLsb', hbit, hlt, decide_true, Bool.true_and] using heq

/-- Lane `i` of the S-layer is S-box `i` of group `g_i` (R203). -/
theorem laneOf_slayer (lane : Fin 8) (x : RoundKey48) : laneOf lane (slayer x) = sboxLane lane x := by
  rw [laneOf, slayer, laneLsb]
  fin_cases lane <;>
    simp (disch := decide) only [BitVec.extractLsb'_append_eq_of_le, BitVec.extractLsb'_append_eq_of_add_le,
      Nat.reduceMul, Nat.reduceSub, BitVec.extractLsb'_eq_self]
  all_goals rfl

/-- SBOX.i runs its unit on its lane (R105, R106). -/
theorem exec_sboxInstr (lane : Fin 8) (s : State) :
    exec (sboxInstr lane) s = .next (s.onDatapath (Datapath.sboxUnit lane)) := by
  fin_cases lane <;> rfl

/-- The row of group `g_i` is its outer two bits, the first the high one (R192, R193). -/
theorem groupRow_group6 (lane : Fin 8) (x : RoundKey48) :
    (groupRow (group6 lane x)).val =
      2 * (x.getLsbD (47 - 6 * lane.val)).toNat + (x.getLsbD (42 - 6 * lane.val)).toNat := by
  have hhigh : 42 - 6 * lane.val + 5 = 47 - 6 * lane.val := by omega
  have happend : ∀ b1 b6 : Bool, (BitVec.ofBool b1 ++ BitVec.ofBool b6).toNat = 2 * b1.toNat + b6.toNat := by decide
  have h5 : (group6 lane x).getLsbD 5 = x.getLsbD (47 - 6 * lane.val) := by
    rw [group6, BitVec.getLsbD_extractLsb', hhigh]; rfl
  have h0 : (group6 lane x).getLsbD 0 = x.getLsbD (42 - 6 * lane.val) := by
    rw [group6, BitVec.getLsbD_extractLsb']; rfl
  rw [← h5, ← h0, ← happend]
  rfl

/-- The column is its inner four bits (R192, R193). -/
theorem groupCol_group6 (lane : Fin 8) (x : RoundKey48) :
    (groupCol (group6 lane x)).val = (x.extractLsb' (43 - 6 * lane.val) 4).toNat := by
  refine congrArg BitVec.toNat (BitVec.eq_of_getLsbD_eq fun j hj => ?_)
  have hin : 1 + j < 6 := by omega
  have hidx : 42 - 6 * lane.val + (1 + j) = 43 - 6 * lane.val + j := by omega
  rw [BitVec.getLsbD_extractLsb', group6, BitVec.getLsbD_extractLsb', BitVec.getLsbD_extractLsb', hidx,
    decide_eq_true hin, Bool.true_and]

/-- Settles O51: SBOX.i writes its lane with its cell, and a lane's write leaves the other bits. -/
theorem sboxMicroOpsDriveTheirLane : Obligations.SboxMicroOpsDriveTheirLane := by
  intro s lane row col hrow hcol
  have hr : groupRow (group6 lane s.dp.mix) = row := Fin.ext ((groupRow_group6 lane _).trans hrow.symm)
  have hc : groupCol (group6 lane s.dp.mix) = col := Fin.ext ((groupCol_group6 lane _).trans hcol.symm)
  have hcell : sboxLane lane s.dp.mix = sboxTables[lane][row][col] := by
    simp only [sboxLane, sbox, hr, hc]
  refine ⟨setLane lane (sboxLane lane s.dp.mix) s.dp.sOut, exec_sboxInstr lane s, ?_, fun j hj => ?_⟩
  · rw [← hcell]
    exact laneOf_setLane_same lane _ _
  · rcases Nat.lt_or_ge j 32 with hlt | hge
    · rw [getLsbD_setLane lane _ _ hlt, if_neg (by rw [laneLsb]; omega)]
    · rw [BitVec.getLsbD_of_ge _ j hge, BitVec.getLsbD_of_ge _ j hge]

/-- The S-boxes in order, each writing its lane of what the one before left. -/
def writeLanes (x : RoundKey48) (lanes : List (Fin 8)) (o : HalfBlock32) : HalfBlock32 :=
  lanes.foldl (fun o lane => setLane lane (sboxLane lane x) o) o

/-- A lane that holds its S-box's value keeps it, and a lane that is written takes it. -/
theorem laneOf_writeLanes {x : RoundKey48} {lane : Fin 8} (lanes : List (Fin 8)) (o : HalfBlock32)
    (h : lane ∈ lanes ∨ laneOf lane o = sboxLane lane x) : laneOf lane (writeLanes x lanes o) = sboxLane lane x := by
  induction lanes generalizing o with
  | nil => exact h.resolve_left List.not_mem_nil
  | cons l ls ih =>
    refine ih (setLane l (sboxLane l x) o) ?_
    by_cases hl : lane = l
    · subst hl; exact .inr (laneOf_setLane_same _ _ _)
    · rw [laneOf_setLane_of_ne hl]
      exact h.imp_left fun hmem => (List.mem_cons.mp hmem).resolve_left hl

/-- Written in order, the eight lanes are the S-layer (R203). -/
theorem writeLanes_eq_slayer (x : RoundKey48) (o : HalfBlock32) :
    writeLanes x [0, 1, 2, 3, 4, 5, 6, 7] o = slayer x := by
  refine eq_of_laneOf_eq fun lane => ?_
  rw [laneOf_slayer, laneOf_writeLanes _ _ (.inl (by revert lane; decide))]

/-- XOR48 and the eight S-boxes leave the mixed value's lanes in sOut. -/
theorem execAll_lanes (s : State) :
    ∃ t, execAll [.xor48, .sbox1, .sbox2, .sbox3, .sbox4, .sbox5, .sbox6, .sbox7, .sbox8] s = .next t ∧
      t.dp.sOut = writeLanes (s.dp.e ^^^ s.dp.k) [0, 1, 2, 3, 4, 5, 6, 7] s.dp.sOut :=
  ⟨_, rfl, rfl⟩

/-- Settles O54: the lanes make the S-layer, which FFUNC permutes for the expansion of R. -/
theorem lanesMakeTheFFunction : Obligations.LanesMakeTheFFunction := by
  intro s he
  obtain ⟨t, hexec, hout⟩ := execAll_lanes s
  rw [writeLanes_eq_slayer] at hout
  refine ⟨t, _, hexec, hout, rfl, ?_⟩
  rw [hout, he]
  rfl

end Sys2Proof.Proofs.MicroOps
end

section
/-! PROOFS. The block transformation undoes itself with the keys reversed (R209, R237). -/

namespace Sys2Proof.Proofs.Cipher

open Sys2Proof.Machine Sys2Proof.Proofs.BlockTransformation Sys2Proof.Proofs.Permutations

/-! ### The rounds undone (R209, R237) -/

/-- Settles O38: R' is L under the mask F(R), and L' is R. -/
theorem roundInvertible : Obligations.RoundInvertible := by
  rintro l r l' r' k ⟨⟩
  exact ⟨by simp [mixHalf], rfl⟩

/-- The rounds under a list of keys. -/
def rounds (keys : List RoundKey48) (lr : HalfBlock32 × HalfBlock32) : HalfBlock32 × HalfBlock32 :=
  keys.foldl (fun lr k => roundPair lr.1 lr.2 k) lr

/-- A round on the swapped result of a round gives the swapped pair back. -/
theorem roundPair_swap (l r : HalfBlock32) (k : RoundKey48) :
    roundPair (roundPair l r k).2 (roundPair l r k).1 k = (r, l) := by
  obtain ⟨hl, -⟩ := roundInvertible l r _ _ k rfl
  exact Prod.ext rfl hl.symm

/-- The rounds under the keys reversed undo the rounds, up to the swap of the halves (R237). -/
theorem rounds_reverse_swap (keys : List RoundKey48) (lr : HalfBlock32 × HalfBlock32) :
    rounds keys.reverse (rounds keys lr).swap = lr.swap := by
  induction keys generalizing lr with
  | nil => rfl
  | cons k keys ih =>
    calc rounds (k :: keys).reverse (rounds (k :: keys) lr).swap
        = roundPair (rounds keys.reverse (rounds keys (roundPair lr.1 lr.2 k)).swap).1
            (rounds keys.reverse (rounds keys (roundPair lr.1 lr.2 k)).swap).2 k := by
          rw [List.reverse_cons, rounds, List.foldl_append]; rfl
      _ = lr.swap := by rw [ih]; exact roundPair_swap lr.1 lr.2 k

/-- The block transformation under a list of keys. -/
def transform (keys : List RoundKey48) (b : Block64) : Block64 := joinBlock (rounds keys (splitBlock b))

theorem encryptBlock_eq_transform (b : Block64) (rk : Schedule) : encryptBlock b rk = transform rk.toList b := by
  rw [encryptBlock, cipherBlock, roundsAfter_eq_foldl, keysUsed_enc]; rfl

theorem decryptBlock_eq_transform (b : Block64) (rk : Schedule) :
    decryptBlock b rk = transform rk.toList.reverse b := by
  rw [decryptBlock, cipherBlock, roundsAfter_eq_foldl, keysUsed_dec]; rfl

/-- IP splits what FP joined, swapped: the block joins right-then-left (R233). -/
theorem splitBlock_joinBlock (lr : HalfBlock32 × HalfBlock32) : splitBlock (joinBlock lr) = lr.swap := by
  rw [splitBlock, joinBlock, (inversePermutations _).2]
  exact Prod.ext BitVec.extractLsb'_append_eq_left BitVec.extractLsb'_append_eq_right

theorem joinBlock_swap_splitBlock (b : Block64) : joinBlock (splitBlock b).swap = b := by
  have hjoin : hi32 (iperm b) ++ lo32 (iperm b) = iperm b := by
    rw [hi32, lo32, BitVec.extractLsb'_append_extractLsb'_eq_extractLsb' (start₁ := 0) (len₁ := 32) rfl]
    exact BitVec.extractLsb'_eq_self
  calc joinBlock (splitBlock b).swap = fperm (hi32 (iperm b) ++ lo32 (iperm b)) := rfl
    _ = b := by rw [hjoin, (inversePermutations b).1]

/-- The transformation under the keys reversed undoes it. -/
theorem transform_reverse (keys : List RoundKey48) (b : Block64) : transform keys.reverse (transform keys b) = b := by
  rw [transform, transform, splitBlock_joinBlock, rounds_reverse_swap, joinBlock_swap_splitBlock]

/-- Settles O35: the two directions use the store forward and reversed. -/
theorem blockRoundTrip : Obligations.BlockRoundTrip := by
  intro b rk
  have hback := transform_reverse rk.toList.reverse b
  rw [List.reverse_reverse] at hback
  simp only [encryptBlock_eq_transform, decryptBlock_eq_transform]
  exact ⟨transform_reverse rk.toList b, hback⟩

/-- ENCRYPT of the known answer (R235). -/
theorem knownAnswer_encrypt :
    encryptBlock 0x0123456789ABCDEF (deriveRoundKeys 0x133457799BBCDFF1) = 0x85E813540F0AB405 := by decide +kernel

/-- Settles O43: one direction by evaluation, the other undoes it. -/
theorem knownAnswer : Obligations.KnownAnswer := by
  refine ⟨knownAnswer_encrypt, ?_⟩
  rw [← knownAnswer_encrypt, (blockRoundTrip _ _).1]

end Sys2Proof.Proofs.Cipher
end

section
/-! PROOFS. The key schedule: the halves as rotations of PC-1 (R160 to R167), what it ignores of the key (R166), and
what each half of a round key reads (R168). -/

namespace Sys2Proof.Proofs.KeyRotation

open Sys2Proof.Machine Sys2Proof.Proofs.BitPermutation Sys2Proof.Proofs.Permutations

/-! ### Rotation -/

/-- Rotations add up. -/
theorem rotateLeft_rotateLeft {w : Nat} (x : BitVec w) (a b : Nat) :
    (x.rotateLeft a).rotateLeft b = x.rotateLeft (a + b) := by
  refine BitVec.eq_of_getMsbD_eq fun i hi => ?_
  have hlt : (b + i) % w < w := Nat.mod_lt _ (by omega)
  simp only [BitVec.getMsbD_rotateLeft, hi, hlt, decide_true, Bool.true_and, Nat.add_mod_mod, Nat.add_assoc]

theorem rotateLeft_zero {w : Nat} (x : BitVec w) : x.rotateLeft 0 = x := by
  refine BitVec.eq_of_getMsbD_eq fun i hi => ?_
  simp only [BitVec.getMsbD_rotateLeft, hi, decide_true, Bool.true_and, Nat.zero_add, Nat.mod_eq_of_lt hi]

/-- ROTL28 is rotation to the left (R162). -/
theorem rotl28_eq_rotateLeft (h : Half28) {n : Nat} (hn : n < 28) : rotl28 h n = h.rotateLeft n := by
  rw [BitVec.rotateLeft_def, Nat.mod_eq_of_lt hn, rotl28]

theorem shiftOf_lt (r : Nat) : shiftOf r < 28 := by
  have hentries : ∀ i : Fin 16, tableShifts[i] < 28 := by decide
  rcases Nat.lt_or_ge (r - 1) 16 with hlt | hge
  · have := hentries ⟨r - 1, hlt⟩
    simpa [shiftOf, hlt] using this
  · simp [shiftOf, hge]

/-! ### The halves (R161, R163, R167) -/

/-- The shift from PC-1 to the halves of round `n` (R160). -/
def cumulativeShift : Nat → Nat
  | 0 => 0
  | n + 1 => cumulativeShift n + shiftOf (n + 1)

/-- The halves after round `n` are those of PC-1 under the cumulative shift. -/
theorem halvesAfter_eq_rotateLeft (k : MasterKey64) (n : Nat) :
    halvesAfter k n =
      ((hi28 (pc1perm k)).rotateLeft (cumulativeShift n), (lo28 (pc1perm k)).rotateLeft (cumulativeShift n)) := by
  induction n with
  | zero => rw [cumulativeShift, rotateLeft_zero, rotateLeft_zero, halvesAfter]
  | succ n ih =>
    rw [halvesAfter, ih, rotl28_eq_rotateLeft _ (shiftOf_lt _), rotl28_eq_rotateLeft _ (shiftOf_lt _),
      rotateLeft_rotateLeft, rotateLeft_rotateLeft, cumulativeShift]

theorem deriveRoundKeys_getElem (k : MasterKey64) (i : Fin 16) :
    (deriveRoundKeys k)[i] = roundKeyOf (halvesAfter k (i.val + 1)) := by
  simp [deriveRoundKeys]

theorem cumulativeShift_eq_table : ∀ i : Fin 16,
    cumulativeShift (i.val + 1) =
      (#v[1, 2, 4, 6, 8, 10, 12, 14, 15, 17, 19, 21, 23, 25, 27, 28] : Vector Nat 16)[i] := by decide

/-- Settles O40: the shifts of R160 add up to the printed ones, and to a whole turn of 28 after round 16. -/
theorem keyScheduleByCumulativeRotation : Obligations.KeyScheduleByCumulativeRotation := by
  refine fun k => ⟨fun i => ?_, ?_⟩
  · rw [deriveRoundKeys_getElem, halvesAfter_eq_rotateLeft, cumulativeShift_eq_table]
    rfl
  · have hturn : cumulativeShift 16 = 28 := by decide
    rw [halvesAfter_eq_rotateLeft, hturn, ← BitVec.rotateLeft_mod_eq_rotateLeft,
      ← BitVec.rotateLeft_mod_eq_rotateLeft (x := lo28 _), Nat.mod_self, rotateLeft_zero, rotateLeft_zero, halvesAfter]

/-! ### Parity (R166) -/

/-- PC-1 reads no parity position. -/
theorem pc1_skips_parity : ∀ p ∈ tablePC1.toList, fbit (0xFEFEFEFEFEFEFEFE : MasterKey64) p = true := by
  decide +kernel

theorem fbit_xor {w : Nat} (x y : BitVec w) (p : Nat) : fbit (x ^^^ y) p = (fbit x p ^^ fbit y p) :=
  BitVec.getLsbD_xor

theorem fbit_and {w : Nat} (x y : BitVec w) (p : Nat) : fbit (x &&& y) p = (fbit x p && fbit y p) :=
  BitVec.getLsbD_and

theorem pc1perm_xor_parity (k : MasterKey64) {m : MasterKey64} (hm : m &&& 0xFEFEFEFEFEFEFEFE = 0) :
    pc1perm k = pc1perm (k ^^^ m) := by
  refine permute_congr fun p hp => ?_
  have hzero : fbit m p = false := by
    have hand : fbit (m &&& 0xFEFEFEFEFEFEFEFE) p = false := by rw [hm]; exact BitVec.getLsbD_zero
    rwa [fbit_and, pc1_skips_parity p hp, Bool.and_true] at hand
  rw [fbit_xor, hzero, Bool.xor_false]

/-- The schedule reads the key through PC-1 alone. -/
theorem deriveRoundKeys_congr {k k' : MasterKey64} (h : pc1perm k = pc1perm k') :
    deriveRoundKeys k = deriveRoundKeys k' := by
  simp only [deriveRoundKeys, halvesAfter_eq_rotateLeft, h]

/-- Settles O39: PC-1 drops the parity positions, and the schedule reads nothing else of the key. -/
theorem parityBitsIgnored : Obligations.ParityBitsIgnored :=
  fun k _ hm => deriveRoundKeys_congr (pc1perm_xor_parity k hm)

/-! ### The halves of a round key (R168) -/

theorem fbit_append_left {w v : Nat} (x : BitVec w) (y : BitVec v) {p : Nat} (hp : p ≤ w) :
    fbit (x ++ y) p = fbit x p := by
  have hidx : w + v - p - v = w - p := by omega
  rw [fbit, BitVec.getLsbD_append, if_neg (by omega), hidx, fbit]

theorem fbit_append_right {w v : Nat} (x : BitVec w) (y : BitVec v) {p : Nat} (hp : w < p) (hpv : p ≤ w + v) :
    fbit (x ++ y) p = fbit y (p - w) := by
  have hidx : w + v - p = v - (p - w) := by omega
  rw [fbit, BitVec.getLsbD_append, if_pos (by omega), hidx, fbit]

/-- The positions of C that PC-2 reads: its first half. -/
def tableC : Vector Nat 24 := Vector.ofFn fun i => tablePC2[i.val]

/-- The positions of D that PC-2 reads, counted within D: its second half. -/
def tableD : Vector Nat 24 := Vector.ofFn fun i => tablePC2[24 + i.val] - 28

theorem tablePC2_reads_C : ∀ i : Fin 24, tablePC2[i.val] ≤ 28 := by decide

theorem tablePC2_reads_D : ∀ i : Fin 24, 28 < tablePC2[24 + i.val] ∧ tablePC2[24 + i.val] ≤ 28 + 28 := by decide

/-- A round key is a selection from C, then one from D (R168). -/
theorem roundKeyOf_eq_append (c d : Half28) : roundKeyOf (c, d) = permute tableC c ++ permute tableD d := by
  refine eq_of_fbit_eq fun p hp => ?_
  rw [roundKeyOf, pc2perm, fbit_permute _ _ hp]
  by_cases hC : p < 24
  · rw [fbit_append_left _ _ (tablePC2_reads_C ⟨p, hC⟩), fbit_append_left _ _ (by omega), fbit_permute _ _ hC, tableC,
      Vector.getElem_ofFn]
  · obtain ⟨j, rfl⟩ : ∃ j, p = 24 + j := ⟨p - 24, by omega⟩
    have hj : j < 24 := by omega
    have hsub : 24 + j + 1 - 24 = j + 1 := by omega
    obtain ⟨hlow, hhigh⟩ := tablePC2_reads_D ⟨j, hj⟩
    rw [fbit_append_right _ _ hlow hhigh, fbit_append_right _ _ (by omega) (by omega), hsub, fbit_permute _ _ hj,
      tableD, Vector.getElem_ofFn]

/-- PC-2 reads no position outside 1..56, and none of the eight omitted ones. -/
theorem tablePC2_omits : ∀ p ∈ tablePC2.toList, 1 ≤ p ∧ p ≤ 56 ∧ p ∉ [9, 18, 22, 25, 35, 38, 43, 54] := by decide

/-- Settles O41: each half of a round key is a selection from its own half, and PC-2 reads its table's positions
alone. -/
theorem roundKeyHalvesSeparate : Obligations.RoundKeyHalvesSeparate := by
  refine ⟨fun c c' d d' => ⟨fun hc => ?_, fun hd => ?_⟩, fun cd cd' h => ?_⟩
  · rw [hc, roundKeyOf_eq_append, roundKeyOf_eq_append, BitVec.extractLsb'_append_eq_left,
      BitVec.extractLsb'_append_eq_left]
  · rw [hd, roundKeyOf_eq_append, roundKeyOf_eq_append, BitVec.extractLsb'_append_eq_right,
      BitVec.extractLsb'_append_eq_right]
  · refine permute_congr fun p hp => ?_
    obtain ⟨h1, h56, homit⟩ := tablePC2_omits p hp
    exact h p h1 h56 homit

end Sys2Proof.Proofs.KeyRotation
end

section
/-! PROOFS. The cipher commutes with the complement (R206, R243). -/

namespace Sys2Proof.Proofs.Complement

open Sys2Proof.Machine Sys2Proof.Proofs.KeySchedule Sys2Proof.Proofs.KeyRotation

/-! ### Words -/

theorem not_xor_not {w : Nat} (x y : BitVec w) : ~~~x ^^^ ~~~y = x ^^^ y := by
  rw [← BitVec.not_xor_left, ← BitVec.not_xor_right, BitVec.not_not]

/-- A slice within the word commutes with the complement. -/
theorem extractLsb'_not {w : Nat} (x : BitVec w) {start len : Nat} (h : start + len ≤ w) :
    (~~~x).extractLsb' start len = ~~~(x.extractLsb' start len) := by
  refine BitVec.eq_of_getLsbD_eq fun j hj => ?_
  have hin : start + j < w := by omega
  simp only [BitVec.getLsbD_extractLsb', BitVec.getLsbD_not, hj, hin, decide_true, Bool.true_and]

theorem rotateLeft_not {w : Nat} (x : BitVec w) (n : Nat) : (~~~x).rotateLeft n = ~~~(x.rotateLeft n) := by
  refine BitVec.eq_of_getMsbD_eq fun i hi => ?_
  have hin : (n + i) % w < w := Nat.mod_lt _ (by omega)
  simp only [BitVec.getMsbD_rotateLeft, BitVec.getMsbD_not, hi, hin, decide_true, Bool.true_and]

/-- The complement of a pair of halves. -/
def notPair {w : Nat} (p : BitVec w × BitVec w) : BitVec w × BitVec w := (~~~p.1, ~~~p.2)

/-! ### The permutations, well formed as they are (R131) -/

theorem iperm_not (x : Block64) : iperm (~~~x) = ~~~(iperm x) := permute_not _ _ (by decide +kernel)

theorem fperm_not (x : Block64) : fperm (~~~x) = ~~~(fperm x) := permute_not _ _ (by decide +kernel)

theorem expand_not (r : HalfBlock32) : expand (~~~r) = ~~~(expand r) := permute_not _ _ (by decide +kernel)

theorem pc1perm_not (k : MasterKey64) : pc1perm (~~~k) = ~~~(pc1perm k) := permute_not _ _ (by decide +kernel)

theorem pc2perm_not (cd : Key56) : pc2perm (~~~cd) = ~~~(pc2perm cd) := permute_not _ _ (by decide +kernel)

/-! ### The key schedule -/

theorem halvesAfter_not (k : MasterKey64) (n : Nat) : halvesAfter (~~~k) n = notPair (halvesAfter k n) := by
  rw [halvesAfter_eq_rotateLeft, halvesAfter_eq_rotateLeft, pc1perm_not, hi28, hi28, lo28, lo28,
    extractLsb'_not _ (by decide), extractLsb'_not _ (by decide), rotateLeft_not, rotateLeft_not, notPair]

theorem roundKeyOf_not (cd : Half28 × Half28) : roundKeyOf (notPair cd) = ~~~(roundKeyOf cd) := by
  rw [roundKeyOf, notPair, ← BitVec.not_append, pc2perm_not, roundKeyOf]

theorem rkAt_deriveRoundKeys_not (k : MasterKey64) {r : Nat} (h1 : 1 ≤ r) (h16 : r ≤ 16) :
    rkAt (deriveRoundKeys (~~~k)) r = ~~~(rkAt (deriveRoundKeys k) r) := by
  rw [rkAt_deriveRoundKeys _ h1 h16, rkAt_deriveRoundKeys _ h1 h16, halvesAfter_not, roundKeyOf_not]

/-! ### The rounds -/

/-- The F-function does not see the complement of both operands (R206). -/
theorem ffun_not (r : HalfBlock32) (k : RoundKey48) : ffun (~~~r) (~~~k) = ffun r k := by
  rw [ffun, ffun, mixKey, mixKey, expand_not, not_xor_not]

theorem roundPair_not (l r : HalfBlock32) (k : RoundKey48) :
    roundPair (~~~l) (~~~r) (~~~k) = notPair (roundPair l r k) := by
  rw [roundPair, roundPair, notPair, ffun_not, mixHalf, mixHalf, BitVec.not_xor_left]

theorem splitBlock_not (b : Block64) : splitBlock (~~~b) = notPair (splitBlock b) := by
  rw [splitBlock, iperm_not, hi32, lo32, extractLsb'_not _ (by decide), extractLsb'_not _ (by decide)]; rfl

theorem joinBlock_not (lr : HalfBlock32 × HalfBlock32) : joinBlock (notPair lr) = ~~~(joinBlock lr) := by
  rw [joinBlock, notPair, ← BitVec.not_append, fperm_not, joinBlock]

/-- Complementing key and block complements the pair after every round. -/
theorem roundsAfter_not (k : MasterKey64) (b : Block64) {n : Nat} (hn : n ≤ 16) :
    roundsAfter .enc (deriveRoundKeys (~~~k)) (~~~b) n = notPair (roundsAfter .enc (deriveRoundKeys k) b n) := by
  induction n with
  | zero => exact splitBlock_not b
  | succ n ih =>
    rw [roundsAfter, ih (by omega), keyFor, rkAt_deriveRoundKeys_not k (by omega) hn]
    exact roundPair_not _ _ _

/-- Settles O36: every part of ENCRYPT commutes with the complement, but F, which does not see it. -/
theorem complementation : Obligations.Complementation := by
  refine ⟨fun r k => ?_, fun b k => ?_⟩
  · have hr : r ^^^ 0xFFFFFFFF = ~~~r := BitVec.xor_allOnes
    have hk : k ^^^ 0xFFFFFFFFFFFF = ~~~k := BitVec.xor_allOnes
    rw [hr, hk, ffun_not]
  · rw [encryptBlock, encryptBlock, cipherBlock, cipherBlock, roundsAfter_not k b le_rfl, joinBlock_not]

end Sys2Proof.Proofs.Complement
end

section
/-! PROOFS. The weak keys (R172), and exactly when all sixteen round keys are equal. -/

namespace Sys2Proof.Proofs.WeakKeys

open Sys2Proof.Machine Sys2Proof.Proofs.BitPermutation Sys2Proof.Proofs.Permutations Sys2Proof.Proofs.Cipher
  Sys2Proof.Proofs.KeyRotation

/-! ### A half that two rotations do not change -/

theorem getMsbD_zeros (q : Nat) : (0 : Half28).getMsbD q = false := BitVec.getMsbD_zero

theorem getMsbD_ones : ∀ q < 28, (0xFFFFFFF : Half28).getMsbD q = true := by decide

/-- A half of equal neighbours is all zeros or all ones. -/
theorem constant_of_neighbours {x : Half28} (h : ∀ q < 28, x.getMsbD q = x.getMsbD ((q + 1) % 28)) :
    x = 0 ∨ x = 0xFFFFFFF := by
  have hfirst : ∀ q < 28, x.getMsbD q = x.getMsbD 0 := by
    intro q hq
    induction q with
    | zero => rfl
    | succ q ih =>
      have hnext := h q (by omega)
      rw [Nat.mod_eq_of_lt hq, ih (by omega)] at hnext
      exact hnext.symm
  rcases h0 : x.getMsbD 0
  · refine .inl (BitVec.eq_of_getMsbD_eq fun q hq => ?_)
    rw [hfirst q hq, h0, getMsbD_zeros]
  · refine .inr (BitVec.eq_of_getMsbD_eq fun q hq => ?_)
    rw [hfirst q hq, h0, getMsbD_ones q hq]

/-- Every position is one that table `t` reads after a rotation by 1, or after one by 27. -/
def Covers (t : Vector Nat 24) : Prop :=
  ∀ q : Fin 28, ∃ i : Fin 24, (1 + (t[i] - 1)) % 28 = q.val ∨ (27 + (t[i] - 1)) % 28 = q.val

theorem tableC_covers : Covers tableC := by unfold Covers; decide

theorem tableD_covers : Covers tableD := by unfold Covers; decide

/-- What a selection reads of a rotated half. -/
theorem getMsbD_of_permute_rotateLeft_eq {t : Vector Nat 24} (ht : tableWf 28 t = true) {x : Half28} {a b : Nat}
    (h : permute t (x.rotateLeft a) = permute t (x.rotateLeft b)) (i : Fin 24) :
    x.getMsbD ((a + (t[i] - 1)) % 28) = x.getMsbD ((b + (t[i] - 1)) % 28) := by
  obtain ⟨h1, h28⟩ := tableWf_iff.mp ht t[i] (by simp)
  obtain ⟨p, hp⟩ : ∃ p, t[i] = p + 1 := ⟨t[i] - 1, by omega⟩
  have hlt : p < 28 := by omega
  have hbit : fbit (x.rotateLeft a) t[i] = fbit (x.rotateLeft b) t[i] := by
    rw [Fin.getElem_fin, ← fbit_permute t _ i.isLt, h, fbit_permute t _ i.isLt]
  rw [hp, fbit_succ _ hlt, fbit_succ _ hlt] at hbit
  simpa only [hp, Nat.add_sub_cancel, BitVec.getMsbD_rotateLeft, hlt, decide_true, Bool.true_and] using hbit

/-- If the selection agrees on the rotations of two pairs of neighbouring rounds, the half is constant. -/
theorem constant_of_selections_eq {t : Vector Nat 24} (ht : tableWf 28 t = true) (hcover : Covers t) {x : Half28}
    (hstart : permute t (x.rotateLeft 1) = permute t (x.rotateLeft 2))
    (hend : permute t (x.rotateLeft 27) = permute t (x.rotateLeft 28)) : x = 0 ∨ x = 0xFFFFFFF := by
  refine constant_of_neighbours fun q hq => ?_
  obtain ⟨i, hi⟩ := hcover ⟨q, hq⟩
  change (1 + (t[i] - 1)) % 28 = q ∨ (27 + (t[i] - 1)) % 28 = q at hi
  obtain hi | hi := hi
  · have hnext : (2 + (t[i] - 1)) % 28 = (q + 1) % 28 := by omega
    have hbit := getMsbD_of_permute_rotateLeft_eq ht hstart i
    rwa [hi, hnext] at hbit
  · have hnext : (28 + (t[i] - 1)) % 28 = (q + 1) % 28 := by omega
    have hbit := getMsbD_of_permute_rotateLeft_eq ht hend i
    rwa [hi, hnext] at hbit

/-- A constant half is the same under every rotation. -/
theorem rotateLeft_of_constant {x : Half28} (h : x = 0 ∨ x = 0xFFFFFFF) (n : Nat) : x.rotateLeft n = x := by
  refine BitVec.eq_of_getMsbD_eq fun i hi => ?_
  have hin : (n + i) % 28 < 28 := Nat.mod_lt _ (by omega)
  rw [BitVec.getMsbD_rotateLeft, decide_eq_true hi, Bool.true_and]
  obtain rfl | rfl := h
  · rw [getMsbD_zeros, getMsbD_zeros]
  · rw [getMsbD_ones _ hin, getMsbD_ones i hi]

/-! ### Equal round keys -/

/-- Round key `i + 1`, by its two selections. -/
theorem roundKey_eq_append (k : MasterKey64) (i : Fin 16) :
    (deriveRoundKeys k)[i] =
      permute tableC ((halvesAfter k 0).1.rotateLeft (cumulativeShift (i.val + 1))) ++
        permute tableD ((halvesAfter k 0).2.rotateLeft (cumulativeShift (i.val + 1))) := by
  rw [deriveRoundKeys_getElem, halvesAfter_eq_rotateLeft, roundKeyOf_eq_append, halvesAfter]

theorem append_inj {w v : Nat} {x x' : BitVec w} {y y' : BitVec v} (h : x ++ y = x' ++ y') : x = x' ∧ y = y' := by
  refine ⟨?_, ?_⟩
  · rw [← BitVec.extractLsb'_append_eq_left (a := x) (b := y), h, BitVec.extractLsb'_append_eq_left]
  · rw [← BitVec.extractLsb'_append_eq_right (a := x) (b := y), h, BitVec.extractLsb'_append_eq_right]

/-- Rounds 1 and 2, and rounds 15 and 16, already force the halves to be constant. -/
theorem constant_of_roundKeys_eq {k : MasterKey64}
    (h : ∀ r r' : Fin 16, (deriveRoundKeys k)[r] = (deriveRoundKeys k)[r']) :
    ((halvesAfter k 0).1 = 0 ∨ (halvesAfter k 0).1 = 0xFFFFFFF) ∧
    ((halvesAfter k 0).2 = 0 ∨ (halvesAfter k 0).2 = 0xFFFFFFF) := by
  have hstart := h 0 1
  have hend := h 14 15
  rw [roundKey_eq_append, roundKey_eq_append] at hstart hend
  obtain ⟨hstartC, hstartD⟩ := append_inj hstart
  obtain ⟨hendC, hendD⟩ := append_inj hend
  exact ⟨constant_of_selections_eq (by decide) tableC_covers hstartC hendC,
    constant_of_selections_eq (by decide) tableD_covers hstartD hendD⟩

theorem roundKeys_eq_of_constant {k : MasterKey64} (hC : (halvesAfter k 0).1 = 0 ∨ (halvesAfter k 0).1 = 0xFFFFFFF)
    (hD : (halvesAfter k 0).2 = 0 ∨ (halvesAfter k 0).2 = 0xFFFFFFF) (r r' : Fin 16) :
    (deriveRoundKeys k)[r] = (deriveRoundKeys k)[r'] := by
  simp only [roundKey_eq_append, rotateLeft_of_constant hC, rotateLeft_of_constant hD]

/-- A store of equal keys reads the same in either direction (R236). -/
theorem decrypt_eq_encrypt_of_keys_eq (b : Block64) {rk : Schedule} (h : ∀ r r' : Fin 16, rk[r] = rk[r']) :
    decryptBlock b rk = encryptBlock b rk := by
  have hlist : rk.toList = List.replicate 16 rk[0] := by
    refine List.ext_getElem (by simp) fun i hi _ => ?_
    have hlt : i < 16 := by simpa using hi
    rw [List.getElem_replicate]
    exact h ⟨i, hlt⟩ 0
  rw [decryptBlock_eq_transform, encryptBlock_eq_transform, hlist, List.reverse_replicate]

/-- Settles O42: the four schedules by evaluation, the rest by the selections of rotated halves. -/
theorem weakKeysCharacterised : Obligations.WeakKeysCharacterised :=
  ⟨by decide +kernel, by decide +kernel, by decide +kernel, by decide +kernel,
    fun b _ h => decrypt_eq_encrypt_of_keys_eq b h,
    fun _ => ⟨constant_of_roundKeys_eq, fun ⟨hC, hD⟩ => roundKeys_eq_of_constant hC hD⟩⟩

end Sys2Proof.Proofs.WeakKeys
end
